-- ==== Sys2Proof/Word.lean ====
section
/-! DEFINITION. The plainest types of the model: bytes, bays, and one of each per bay (00_scope.md, Conventions). -/

namespace Sys2Proof

/-- A byte of a frame or record. -/
abbrev Byte := BitVec 8

/-- A field two bytes wide. -/
abbrev Half := BitVec 16

/-- The bays are numbered 0 to 3 (00_scope.md). -/
inductive Bay where
  | b0 | b1 | b2 | b3
  deriving DecidableEq, Repr

/-- The bay's index. -/
def Bay.toNat : Bay → Nat
  | .b0 => 0 | .b1 => 1 | .b2 => 2 | .b3 => 3

/-- Every bay in ascending index. -/
def Bay.all : List Bay := [.b0, .b1, .b2, .b3]

/-- The next bay, modulo 4. -/
def Bay.next : Bay → Bay
  | .b0 => .b1 | .b1 => .b2 | .b2 => .b3 | .b3 => .b0

/-- The bay whose index is `n`, if there is one. -/
def Bay.ofNat? : Nat → Option Bay
  | 0 => some .b0 | 1 => some .b1 | 2 => some .b2 | 3 => some .b3 | _ => none

/-- One value for each bay. -/
structure PerBay (α : Type) where
  b0 : α
  b1 : α
  b2 : α
  b3 : α
  deriving DecidableEq, Repr

namespace PerBay

variable {α : Type}

/-- The same value for every bay. -/
def fill (a : α) : PerBay α := ⟨a, a, a, a⟩

/-- The value of one bay. -/
def get (p : PerBay α) : Bay → α
  | .b0 => p.b0 | .b1 => p.b1 | .b2 => p.b2 | .b3 => p.b3

/-- Replaces the value of one bay. -/
def set (p : PerBay α) : Bay → α → PerBay α
  | .b0, a => { p with b0 := a }
  | .b1, a => { p with b1 := a }
  | .b2, a => { p with b2 := a }
  | .b3, a => { p with b3 := a }

/-- Applies a function to every bay's value. -/
def map {β : Type} (f : α → β) (p : PerBay α) : PerBay β := ⟨f p.b0, f p.b1, f p.b2, f p.b3⟩

/-- One value for each bay from its index. -/
def ofFn (f : Bay → α) : PerBay α := ⟨f .b0, f .b1, f .b2, f .b3⟩

/-- The values in ascending bay index. -/
def toList (p : PerBay α) : List α := [p.b0, p.b1, p.b2, p.b3]

end PerBay

/-- The sum of one number for each bay. -/
def PerBay.sum (p : PerBay Nat) : Nat := p.b0 + p.b1 + p.b2 + p.b3

end Sys2Proof
end

