-- ==== Sys2Proof/Syntax.lean ====
section
/-! DEFINITION. The commands the block takes: one constructor for each row of spec/opcode_table.json, with its operands. -/

namespace Sys2Proof

/-- The five masters of the plant link (R173). -/
inductive Master where
  | supervisor
  | panel (b : Bay)
  deriving DecidableEq, Repr

/-- A step record as posted (R1, R192): every field is kept as it was sent. -/
structure StepRecord where
  kind     : Byte
  flags    : Byte
  profile  : Byte
  level    : Byte
  duration : Half
  goal     : Half
  tag      : Byte
  deriving DecidableEq, Repr

/-- The nine switch inputs (R130). -/
inductive Switch where
  | front (b : Bay)
  | boilerWaterOk
  | boilerCutout
  | freshLow
  | freshEmpty
  | condFull
  deriving DecidableEq, Repr

/-- The nine analog channels (R130). -/
inductive Analog where
  | bayTemperature (b : Bay)
  | bayHumidity (b : Bay)
  | boilerTemperature
  deriving DecidableEq, Repr

/-- The strap pins, read at power-on reset and pin reset (R168, R181, section 12.6). -/
structure Straps where
  /-- STRAP_FIT0 to STRAP_FIT3 grounded: the bay is fitted. -/
  fitted : PerBay Bool
  /-- STRAP_RATE grounded: 115,200 bit/s; open: 38,400 bit/s. -/
  fastRate : Bool
  deriving DecidableEq, Repr

/-- The eleven bits of a character as the receiver samples them: samples 7, 8 and 9 of each bit (R169).
Bit 0 of each word is the start bit, bits 1 to 8 the data bits from the least significant, bit 9 the
mark bit and bit 10 the stop bit. -/
structure CharSamples where
  s7 : BitVec 11
  s8 : BitVec 11
  s9 : BitVec 11
  deriving DecidableEq, Repr

/-- The six values of a PROFILE_WRITE as sent (R160, R192). -/
structure ProfileValues where
  maxAirTemp : Half
  maxDose    : Half
  maxFan     : Half
  maxOsc     : Half
  dryFloor   : Half
  maxStep    : Half
  deriving DecidableEq, Repr

/-- The two limits of the park timer (R69): 20 s and 180 s. -/
inductive ParkLimit where
  | minimum
  | maximum
  deriving DecidableEq, Repr

/-- The commands. `m` is the sending master, `noise` the request-noise indication of its frame (R178). -/
inductive Instr where
  | powerOnReset (straps : Straps)
  | pinReset (straps : Straps)
  | startupEnd
  | linkCharacter (c : CharSamples)
  | idleGapExpiry
  | unknownSourceFrame (source kind : Byte) (payload : List Byte) (noise : Bool)
  | unknownKindRequest (m : Master) (kind : Byte) (payload : List Byte) (noise : Bool)
  | responseSend
  /-- The character number `sent` of the response (counted from 0) reads back as `readBack`. -/
  | echoMismatch (sent : Nat) (readBack : CharSamples)
  | presenceExpiry (m : Master)
  | ping (m : Master) (noise : Bool)
  | statusPlant (m : Master) (noise : Bool) (part : Byte)
  | statusBay (m : Master) (noise : Bool) (bay part : Byte)
  | eventsRead (m : Master) (noise : Bool)
  | eventsClear (m : Master) (noise : Bool) (events : Half)
  | eventsMask (m : Master) (noise : Bool) (mask : Half)
  | stepAppend (m : Master) (noise : Bool) (bay expected : Byte) (records : List StepRecord)
  | queueCancel (m : Master) (noise : Bool) (bay : Byte)
  | outcomeRead (m : Master) (noise : Bool) (bay : Byte)
  | outcomeFree (m : Master) (noise : Bool) (bay freed : Byte)
  | bayPause (m : Master) (noise : Bool) (bay admission : Byte)
  | bayResume (m : Master) (noise : Bool) (bay admission : Byte)
  | programAbort (m : Master) (noise : Bool) (bay admission : Byte)
  | budgetSet (m : Master) (noise : Bool) (value : Half)
  | profileRead (m : Master) (noise : Bool) (slot : Byte)
  | profileWrite (m : Master) (noise : Bool) (slot state : Byte) (values : ProfileValues)
  | profileCommit (m : Master) (noise : Bool)
  | plantModeRun (m : Master) (noise : Bool)
  | plantModeStandby (m : Master) (noise : Bool)
  | plantModeSleep (m : Master) (noise : Bool)
  | warmRestart (m : Master) (noise : Bool)
  | outputService (m : Master) (noise : Bool) (output value : Byte)
  | outputServiceAuto (m : Master) (noise : Bool) (output value : Byte)
  | bayClear (m : Master) (noise : Bool) (bay : Byte)
  | boilerClear (m : Master) (noise : Bool)
  | wake
  | wakeSettlingEnd
  | allotmentRound
  | steamYield
  | heaterDriveUpdate
  | noPowerReevaluation (b : Bay)
  | switchSample (sw : Switch) (level : Bool)
  | analogSample (ch : Analog) (raw : BitVec 10)
  | stepDurationExpiry (b : Bay)
  | stall (b : Bay)
  | parkTimer (b : Bay) (limit : ParkLimit)
  | fillTimeout
  | idleCooldown
  /-- `pass` is the result of the blank check or the verify that ends the phase (R163). -/
  | commitPhaseEnd (pass : Bool)
  deriving DecidableEq, Repr

end Sys2Proof
end

