-- ==== Sys2Proof/Machine/State.lean ====
section
/-! DEFINITION. The state of the C330, block by block, and the state right after power-on reset. Timers specified in s or ms
are held in ms (log 1, 10). -/

namespace Sys2Proof.Machine

/-- No command of the block stops with a machine fault: what the spec calls faults are states and events of the part
(INVENTORY.md, Faults). The type is empty, so no step can answer one; that is safe. -/
inductive Fault where
  deriving DecidableEq, Repr

/-- Why a command has no meaning. -/
inductive Refusal where
  /-- A command whose arm of exec gives it no meaning yet; raised by exec alone, safe. No arm raises it in this model. -/
  | notModelled (mnemonic : String)
  deriving DecidableEq, Repr

/-! ### MOC: mode and output control -/

/-- Where the part stands between reset, work and sleep (R181, R183, R186). In `settling` the plant mode is still SLEEP. -/
inductive Phase where
  | startUp | run | standby | sleep | settling
  deriving DecidableEq, Repr

/-- R182. -/
inductive ResetCause where
  | powerOn | pin | warm
  deriving DecidableEq, Repr

/-- The mode of a serviceable output (R188). -/
inductive OutputMode where
  | auto | service
  deriving DecidableEq, Repr

structure Moc where
  phase : Phase
  /-- ms into start-up or wake settling. -/
  timer : Nat
  resetCause : ResetCause
  pumpMode : OutputMode
  pumpValue : Bool
  deriving DecidableEq, Repr

/-! ### PLI: the plant link interface -/

/-- One character on the pair: its mark bit and its byte (R168). -/
structure WireChar where
  mark : Bool
  byte : Byte
  deriving DecidableEq, Repr

/-- Frame assembly (R170), with what it has stored of the frame and whether a character of it was noisy (R178). -/
inductive Rx where
  | hunt
  | skip
  /-- Taking source, kind and length: the bytes stored so far. -/
  | header (got : List Byte) (noise : Bool)
  /-- Taking a payload of `length` bytes. -/
  | payload (source kind : Byte) (length : Nat) (got : List Byte) (noise : Bool)
  /-- Taking the CRC: the high byte once it is stored. -/
  | check (source kind : Byte) (payload : List Byte) (high : Option Byte) (noise : Bool)
  deriving DecidableEq, Repr

/-- The reasons of a NAK (section 12.4). -/
inductive NakReason where
  | noBay | kindUnknown | notPermitted | lengthBad | valueBad | badState | position | ringFull | tooLong
  | outcomeFull | storeBusy
  deriving DecidableEq, Repr

inductive Status where
  | ack
  | nak (r : NakReason)
  deriving DecidableEq, Repr

/-- A response frame waiting to be sent (R178): the requesting master, the kind it answers, the status, the
request-noise indication and the owner's payload. -/
structure Response where
  dest    : Master
  kind    : Byte
  status  : Status
  noise   : Bool
  payload : List Byte
  deriving DecidableEq, Repr

structure Pli where
  fastRate : Bool
  rx : Rx
  tx : Option Response
  /-- The characters the part drove on the pair in its last response (R178, R179). -/
  sent : List WireChar
  deriving DecidableEq, Repr

/-! ### What PLI and OAU hold for each master -/

structure MasterState where
  present : Bool
  /-- The presence window timer, in ms (R174). -/
  window : Nat
  /-- The pending event set, bits as section 12.4 numbers them (R149). -/
  pending : Half
  /-- The event mask (R149). -/
  mask : Half
  /-- The attention line (R154). -/
  line : Bool
  deriving DecidableEq, Repr

/-! ### SRS: the step rings -/

/-- A bay's step ring (R21, R22), oldest record first. -/
structure StepRing where
  records : List StepRecord
  p : Byte
  c : Byte
  admitted : Nat
  openLength : Nat
  deriving DecidableEq, Repr

/-! ### BSQ: the bay sequencers -/

inductive StepKind where
  | steam | dry | refresh | cool | soak
  deriving DecidableEq, Repr

/-- A clamped step copy (R19). -/
structure StepCopy where
  kind : StepKind
  level : Nat
  /-- In s. -/
  duration : Nat
  /-- Grams for STEAM, %RH for DRY, °C for COOL. -/
  target : Option Nat
  goalGiven : Bool
  tempLimit : Option Nat
  fanCeiling : Nat
  oscRate : Nat
  openOk : Bool
  deriving DecidableEq, Repr

/-- How a parking program will be reported (R42). -/
inductive ParkResult where
  | aborted | stalled | masterLost | faulted
  deriving DecidableEq, Repr

/-- The admitted-program context (R42). The three step timers are in ms, delivered steam in mg. -/
structure Context where
  stepCount : Nat
  copies : List StepCopy
  clamped : Bool
  index : Nat
  paused : Bool
  stepTimer : Nat
  heldTime : Nat
  stallTimer : Nat
  satisfied : Nat
  delivered : Nat
  pendingResult : Option ParkResult
  deriving DecidableEq, Repr

/-- The hold-reason set (R46). -/
structure HoldSet where
  frontOpen : Bool
  paused : Bool
  noSteam : Bool
  noPower : Bool
  tankFull : Bool
  plantStandby : Bool
  deriving DecidableEq, Repr

/-- R39. -/
inductive BayState where
  | absent | idle | waiting | running | held | parking | faulted
  deriving DecidableEq, Repr

structure Bsq where
  state : BayState
  context : Option Context
  holds : HoldSet
  /-- In ms (R68). -/
  parkTimer : Nat
  /-- The event of the park timer reaching 20 s has been taken (R69; the model's own mark, log 3). -/
  parkMinTaken : Bool
  faultAfterPark : Bool
  admission : Byte
  deriving DecidableEq, Repr

/-! ### OAU: the outcome rings -/

inductive Result where
  | done | short | aborted | stalled | masterLost | faulted | rejected | cancelled
  deriving DecidableEq, Repr

inductive RejectReason where
  | badKind | badDuration | badProfile | profileForbidsSteam | goalNotAllowed
  deriving DecidableEq, Repr

/-- An outcome record (R142). -/
structure Outcome where
  sequence : Byte
  result : Result
  final : Bool
  tag : Byte
  clamped : Bool
  stepIndex : Option Nat
  /-- run_s and held_s. -/
  times : Option (Nat × Nat)
  steamDg : Option Nat
  /-- end_temp and end_rh. -/
  ends : Option (Nat × Nat)
  reject : Option (Nat × RejectReason)
  /-- programs_removed and steps_removed. -/
  removed : Option (Nat × Nat)
  deriving DecidableEq, Repr

/-- A bay's outcome ring (R143, R144), oldest record first. -/
structure OutcomeRing where
  records : List Outcome
  q : Byte
  f : Byte
  reservation : Bool
  promise : Bool
  deriving DecidableEq, Repr

/-! ### PAE: the power allotment engine -/

/-- The grant table, in W (R92). -/
structure GrantTable where
  boiler : Nat
  compressor : Nat
  aux : PerBay Nat
  fan : PerBay Nat
  osc : PerBay Nat
  pump : Nat
  class0 : Nat
  class1 : Nat
  class2 : Nat
  unallotted : Nat
  deriving DecidableEq, Repr

structure Pae where
  /-- In ms (R72). -/
  roundTimer : Nat
  budget : Nat
  effective : Nat
  grants : GrantTable
  compressorOn : Bool
  /-- In ms (R80). -/
  minOn : Nat
  minOff : Nat
  shed : Bool
  deriving DecidableEq, Repr

/-- Which readers have still to take the last publication (R92; the model's own marks, log 13). -/
structure Untaken where
  blc : Bool
  alc : Bool
  bsq : PerBay Bool
  deriving DecidableEq, Repr

/-! ### BLC: the boiler controller -/

inductive BoilerState where
  | cold | fill | heat | ready | starved | locked
  deriving DecidableEq, Repr

inductive LockCause where
  | none | overTemperature | cutout | sensor
  deriving DecidableEq, Repr

structure Blc where
  state : BoilerState
  cause : LockCause
  /-- In ms (R100). -/
  fillTimer : Nat
  /-- In ms (R105). -/
  idleTimer : Nat
  carry : Nat
  pointer : Bay
  lastYield : Nat
  credits : PerBay Nat
  produced : BitVec 32
  valves : PerBay Bool
  pumpDrive : Bool
  /-- In W (log 14). -/
  heaterDrive : Nat
  deriving DecidableEq, Repr

/-! ### ALC: the air loop controller -/

inductive Damper where
  | closed | opened
  deriving DecidableEq, Repr

/-- A serviceable output of a bay: what it is driven at, its mode and service value (R116), and whether it stays at its
inactive level until the next publication (R129). -/
structure Serviced (α : Type) where
  driven : α
  mode : OutputMode
  service : α
  awaiting : Bool
  deriving DecidableEq, Repr

structure BayOutputs where
  fan : Serviced Nat
  damper : Serviced Damper
  osc : Serviced Nat
  /-- Auxiliary heater demand and drive, in W. -/
  demand : Nat
  drive : Nat
  deriving DecidableEq, Repr

structure Alc where
  bays : PerBay BayOutputs
  compressorDrive : Bool
  deriving DecidableEq, Repr

/-! ### SNU: the sense unit -/

/-- A switch filter (R132); `true` is open, OK or true. `pin` is the level standing at the pin (log 6). -/
structure SwitchFilter where
  pin : Bool
  raw : Bool
  filtered : Bool
  run : Nat
  confirmed : Bool
  deriving DecidableEq, Repr

inductive ChannelState where
  | unknown | valid | stale | fault
  deriving DecidableEq, Repr

/-- An analog channel (R137). `pin` is the code standing at the pin (log 6). -/
structure Channel where
  pin : BitVec 10
  state : ChannelState
  last : Option Nat
  rawCode : Option (BitVec 10)
  invalidRun : Nat
  validRun : Nat
  deriving DecidableEq, Repr

structure Snu where
  fronts : PerBay SwitchFilter
  boilerWaterOk : SwitchFilter
  boilerCutout : SwitchFilter
  freshLow : SwitchFilter
  freshEmpty : SwitchFilter
  condFull : SwitchFilter
  temps : PerBay Channel
  hums : PerBay Channel
  boilerTemp : Channel
  /-- In ms (R131). -/
  switchTimer : Nat
  analogTimer : Nat
  /-- The inputs still to be sampled at the present expiry (the model's own lists, log 3). -/
  switchDue : List Switch
  analogDue : List Analog
  deriving DecidableEq, Repr

/-! ### PTS: the profile table and store -/

/-- The six fields of a VALID slot (R157). -/
structure Profile where
  maxAirTemp : Nat
  maxDose : Nat
  maxFan : Nat
  maxOsc : Nat
  dryFloor : Nat
  maxStep : Nat
  deriving DecidableEq, Repr

/-- The sixteen slots; an EMPTY slot holds nothing (R157). -/
abbrev ProfileTable := Vector (Option Profile) 16

inductive CommitPhase where
  | idle | erasing | checking | writing | verifying | marking
  deriving DecidableEq, Repr

inductive CommitResult where
  | none | done | fail
  deriving DecidableEq, Repr

structure Pts where
  table : ProfileTable
  dirty : Bool
  phase : CommitPhase
  /-- In ms. -/
  phaseTimer : Nat
  reErased : Bool
  rewritten : Bool
  snapshot : Option ProfileTable
  lastResult : CommitResult
  /-- The store's table area: blank, or a table. -/
  store : Option ProfileTable
  marker : Bool
  storeInvalid : Bool
  deriving DecidableEq, Repr

/-! ### The whole -/

structure State where
  /-- The commands waiting, first in, first out. -/
  pending : List Instr
  fitted : PerBay Bool
  moc : Moc
  pli : Pli
  supervisor : MasterState
  panels : PerBay MasterState
  srs : PerBay StepRing
  bsq : PerBay Bsq
  oau : PerBay OutcomeRing
  pae : Pae
  untaken : Untaken
  blc : Blc
  alc : Alc
  snu : Snu
  pts : Pts
  /-- How many free values have been used (the model's own counter, log 7). -/
  freeCount : Nat
  deriving DecidableEq, Repr

/-! ### After reset -/

/-- The empty hold-reason set. -/
def HoldSet.empty : HoldSet := ⟨false, false, false, false, false, false⟩

/-- Every entry and total 0 (R73). -/
def GrantTable.zero : GrantTable :=
  ⟨0, 0, PerBay.fill 0, PerBay.fill 0, PerBay.fill 0, 0, 0, 0, 0, 0⟩

/-- A switch filter at its safe-assumed level (R134). -/
def SwitchFilter.assumed (level pin : Bool) : SwitchFilter := ⟨pin, level, level, 0, false⟩

/-- A channel with no value yet (R139). -/
def Channel.unsampled (pin : BitVec 10) : Channel := ⟨pin, .unknown, none, none, 0, 0⟩

/-- The factory table of R158. -/
def ProfileTable.factory : ProfileTable :=
  #v[some ⟨70, 400, 8, 120, 25, 3600⟩, some ⟨60, 250, 7, 90, 30, 2400⟩, some ⟨45, 120, 5, 40, 45, 1800⟩,
     some ⟨40, 60, 3, 20, 50, 1200⟩, some ⟨50, 150, 6, 60, 35, 1800⟩, some ⟨45, 0, 6, 60, 40, 1800⟩,
     none, none, none, none, none, none, none, none, none, none]

/-- The machine right after power-on reset: start-up begins, RESTARTED is pending at every master and every output is
inactive (R181 and the reset table of each chapter). The straps, the pins and the store are outside the part: all four
bays fitted, 38,400 bit/s, switches at their safe-assumed levels, analog codes 0, a store that never held a commit
(DESIGN CHOICE, unsafe, logs 4 to 6). -/
def State.reset : State where
  pending := []
  fitted := PerBay.fill true
  moc := { phase := .startUp, timer := 0, resetCause := .powerOn, pumpMode := .auto, pumpValue := false }
  pli := { fastRate := false, rx := .hunt, tx := none, sent := [] }
  supervisor := { present := false, window := 0, pending := 0x0001#16, mask := 0x0FFF#16, line := true }
  panels := PerBay.fill
    { present := false, window := 0, pending := 0x0008#16, mask := 0x000F#16, line := true }
  srs := PerBay.fill { records := [], p := 0, c := 0, admitted := 0, openLength := 0 }
  bsq := PerBay.fill
    { state := .idle, context := none, holds := HoldSet.empty, parkTimer := 0, parkMinTaken := false,
      faultAfterPark := false, admission := 0 }
  oau := PerBay.fill { records := [], q := 0, f := 0, reservation := false, promise := false }
  pae := { roundTimer := 0, budget := 2000, effective := 1500, grants := GrantTable.zero, compressorOn := false,
           minOn := 0, minOff := 0, shed := false }
  untaken := { blc := false, alc := false, bsq := PerBay.fill false }
  blc := { state := .cold, cause := .none, fillTimer := 0, idleTimer := 0, carry := 0, pointer := .b0,
           lastYield := 0, credits := PerBay.fill 0, produced := 0, valves := PerBay.fill false,
           pumpDrive := false, heaterDrive := 0 }
  alc := { bays := PerBay.fill
             { fan := ⟨0, .auto, 0, false⟩, damper := ⟨.closed, .auto, .closed, false⟩,
               osc := ⟨0, .auto, 0, false⟩, demand := 0, drive := 0 },
           compressorDrive := false }
  snu := { fronts := PerBay.fill (SwitchFilter.assumed true true),
           boilerWaterOk := SwitchFilter.assumed false false, boilerCutout := SwitchFilter.assumed true true,
           freshLow := SwitchFilter.assumed true true, freshEmpty := SwitchFilter.assumed true true,
           condFull := SwitchFilter.assumed true true,
           temps := PerBay.fill (Channel.unsampled 0), hums := PerBay.fill (Channel.unsampled 0),
           boilerTemp := Channel.unsampled 0, switchTimer := 0, analogTimer := 0, switchDue := [], analogDue := [] }
  pts := { table := ProfileTable.factory, dirty := true, phase := .idle, phaseTimer := 0, reErased := false,
           rewritten := false, snapshot := none, lastResult := .none, store := none, marker := false,
           storeInvalid := true }
  freeCount := 0

end Sys2Proof.Machine
end

