-- ==== Sys2Proof/Machine/Figures.lean ====
section
/-! DEFINITION. The fixed figures of the manual, each under the rule that states it. Times are in ms. -/

namespace Sys2Proof.Machine

/-- Start-up lasts 30 ms (R181). -/
def startUpMs : Nat := 30
/-- Wake settling lasts 20 ms (R186). -/
def settlingMs : Nat := 20
/-- The round timer expires every 500 ms (R72). -/
def roundMs : Nat := 500
/-- The switch sample timer expires every 10 ms, the analog sample timer every 500 ms (R131). -/
def switchSampleMs : Nat := 10
def analogSampleMs : Nat := 500
/-- The compressor's minimum on and off times (R80). -/
def minOnMs : Nat := 60000
def minOffMs : Nat := 120000
/-- A HELD step stalls at 900 s (R55). -/
def stallMs : Nat := 900000
/-- The held time stops at 65535 s (R53). -/
def heldMs : Nat := 65535000
/-- The park timer's limits (R69). -/
def parkMinMs : Nat := 20000
def parkMaxMs : Nat := 180000
/-- The fill timer's limit (R100) and the idle cooldown timer's (R105). -/
def fillMs : Nat := 45000
def cooldownMs : Nat := 300000

/-- The presence window of a master (R174). -/
def windowMs : Master → Nat
  | .supervisor => 30000
  | .panel _ => 10000

/-- The duration of a commit phase (R163). -/
def commitPhaseMs : CommitPhase → Nat
  | .idle => 0 | .erasing => 400 | .checking => 10 | .writing => 60 | .verifying => 10 | .marking => 10

/-- Places of a step ring (R21) and of an outcome ring (R143); steps of a program (R14). -/
def ringPlaces : Nat := 16
def outcomePlaces : Nat := 8
def programSteps : Nat := 8

/-- The budget after a reset or warm restart, and its fallback while the supervisor is ABSENT (R73, R75). -/
def resetBudget : Nat := 2000
def fallbackBudget : Nat := 1500
/-- The standing reserve (R76). -/
def standingReserve : Nat := 40
/-- What the compressor draws (R80). -/
def compressorWatts : Nat := 600
/-- Class-0 charges (R77). -/
def fanWattsPerLevel : Nat := 4
def oscWatts : Nat := 20
def pumpWatts : Nat := 15
/-- Heater quanta (R87). -/
def boilerQuantum : Nat := 150
def auxQuantum : Nat := 50
/-- The boiler heater's power (R88) and its keep-warm part (R110). -/
def boilerWatts : Nat := 1200
def keepWarmWatts : Nat := 150
/-- Millijoules to a milligram of steam (R110), and the round's length in ms as a factor. -/
def steamHeat : Nat := 2257

/-- Boiler thresholds, in °C (R102). -/
def readyTemp : Nat := 102
def reheatTemp : Nat := 96
def lockTemp : Nat := 150
def clearTemp : Nat := 90
/-- A park may end early at or below this bay temperature (R69). -/
def parkTemp : Nat := 40

/-- The fan level of a parking bay (R68) and of a STEAM step (R3). -/
def parkFan : Nat := 8
def steamFan : Nat := 2

/-- An absent goal (R10). -/
def absentGoal : Half := 0xFFFF#16

end Sys2Proof.Machine
end

