-- ==== Sys2Proof/Machine/Flags.lean ====
section
/-! DEFINITION. The event flags: pending sets, masks and attention lines (R149 to R154), with the bits of section 12.4. -/

namespace Sys2Proof.Machine

/-- The supervisor's events (R149). -/
inductive SupEvent where
  | restarted | linkFault | budgetShed | boilerChange | freshLow | freshEmpty | condFull | sensorFault
  | masterLost | storeDone | storeFault | woke
  deriving DecidableEq, Repr

/-- A bay master's events (R149). -/
inductive PanelEvent where
  | outcomeReady | stateChange | holdChange | restarted
  deriving DecidableEq, Repr

/-- The event's place in the supervisor's set (section 12.4). -/
def supBit : SupEvent → Half
  | .restarted => 0x0001#16 | .linkFault => 0x0002#16 | .budgetShed => 0x0004#16 | .boilerChange => 0x0008#16
  | .freshLow => 0x0010#16 | .freshEmpty => 0x0020#16 | .condFull => 0x0040#16 | .sensorFault => 0x0080#16
  | .masterLost => 0x0100#16 | .storeDone => 0x0200#16 | .storeFault => 0x0400#16 | .woke => 0x0800#16

/-- The event's place in a bay master's set (section 12.4). -/
def panelBit : PanelEvent → Half
  | .outcomeReady => 0x0001#16 | .stateChange => 0x0002#16 | .holdChange => 0x0004#16 | .restarted => 0x0008#16

/-- The events that belong to a master (R149). -/
def eventSet : Master → Half
  | .supervisor => 0x0FFF#16
  | .panel _ => 0x000F#16

/-- The latched events of a master, which EVENTS_CLEAR may clear (R149, R152). -/
def latchedSet : Master → Half
  | .supervisor => 0x0FFF#16
  | .panel _ => 0x000E#16

/-- The attention line is asserted exactly when pending set and mask have an event in common (R154). -/
def redriveLine (m : MasterState) : MasterState := { m with line := (m.pending &&& m.mask) != 0#16 }

/-- Raises events into a pending set (R149). -/
def raiseBits (bits : Half) (m : MasterState) : MasterState :=
  redriveLine { m with pending := m.pending ||| bits }

/-- Clears events of a pending set (R152). -/
def clearBits (bits : Half) (m : MasterState) : MasterState :=
  redriveLine { m with pending := m.pending &&& ~~~bits }

/-- Makes a pending set hold just the given events (R150). -/
def setPending (bits : Half) (m : MasterState) : MasterState := redriveLine { m with pending := bits }

/-- Replaces a mask (R153). -/
def setMask (mask : Half) (m : MasterState) : MasterState := redriveLine { m with mask := mask }

/-- What is held for a master. -/
def masterState (m : Master) (s : State) : MasterState :=
  match m with
  | .supervisor => s.supervisor
  | .panel b => s.panels.get b

/-- Replaces what is held for a master. -/
def setMaster (m : Master) (x : MasterState) (s : State) : State :=
  match m with
  | .supervisor => { s with supervisor := x }
  | .panel b => { s with panels := s.panels.set b x }

/-- Whether a master is the supervisor or the bay panel of a fitted bay (R173, R175 check 1). -/
def masterFitted (m : Master) (s : State) : Bool :=
  match m with
  | .supervisor => true
  | .panel b => s.fitted.get b

/-- Raises an event of the supervisor (R149). -/
def raiseSup (e : SupEvent) (s : State) : State := { s with supervisor := raiseBits (supBit e) s.supervisor }

/-- Raises an event of a bay master; the set of an unfitted bay's master is kept empty (R149). -/
def raisePanel (b : Bay) (e : PanelEvent) (s : State) : State :=
  if s.fitted.get b then { s with panels := s.panels.set b (raiseBits (panelBit e) (s.panels.get b)) } else s

/-- OUTCOME_READY becomes false (R147, R149). -/
def dropOutcomeReady (b : Bay) (s : State) : State :=
  { s with panels := s.panels.set b (clearBits (panelBit .outcomeReady) (s.panels.get b)) }

/-- RESTARTED alone is pending at the supervisor and at each master with a fitted bay (R150). -/
def restartEvents (s : State) : State :=
  { s with
    supervisor := setPending (supBit .restarted) s.supervisor
    panels := PerBay.ofFn fun b =>
      if s.fitted.get b then setPending (panelBit .restarted) (s.panels.get b) else s.panels.get b }

end Sys2Proof.Machine
end

