-- ==== Sys2Proof/Machine/Operands.lean ====
section
/-! DEFINITION. What crosses the link: code values, requests and their payloads, records, the CRC and characters (chapters
10 and 12). -/

namespace Sys2Proof.Machine

/-! ### Bytes -/

/-- Fields wider than a byte are sent high byte first (chapter 12). -/
def halfOf (hi lo : Byte) : Half := hi ++ lo
def hiByte (h : Half) : Byte := h.extractLsb' 8 8
def loByte (h : Half) : Byte := h.extractLsb' 0 8
def halfBytes (h : Half) : List Byte := [hiByte h, loByte h]

/-- A number in one, two, three or four bytes. -/
def byteOf (n : Nat) : Byte := BitVec.ofNat 8 n
def bytes2 (n : Nat) : List Byte := [byteOf (n / 256), byteOf n]
def bytes3 (n : Nat) : List Byte := byteOf (n / 65536) :: bytes2 n
def bytes4 (n : Nat) : List Byte := byteOf (n / 16777216) :: bytes3 n

/-- An absent value is coded as all ones (R191). -/
def byteOr (o : Option Nat) : Byte := match o with | some n => byteOf n | none => 0xFF#8
def bytes2Or (o : Option Nat) : List Byte := match o with | some n => bytes2 n | none => [0xFF#8, 0xFF#8]
def bytes3Or (o : Option Nat) : List Byte := match o with | some n => bytes3 n | none => [0xFF#8, 0xFF#8, 0xFF#8]

/-- A flag byte from its bits, bit 0 first (chapter 12). -/
def flagByte : List Bool → Byte
  | [] => 0
  | b :: bs => (if b then 1#8 else 0#8) ||| (flagByte bs <<< 1)

/-- Whole seconds of a timer held in ms (log 10). -/
def seconds (ms : Nat) : Nat := ms / 1000

/-- The bay of a bay index, if it lies in 0 to 3. -/
def bayOf (index : Byte) : Option Bay := Bay.ofNat? index.toNat

/-- A bay's index as a byte. -/
def bayByte (b : Bay) : Byte := byteOf b.toNat

/-! ### Code values (section 12.4) -/

def kindOfCode (c : Byte) : Option StepKind :=
  match c.toNat with
  | 1 => some .steam | 2 => some .dry | 3 => some .refresh | 4 => some .cool | 5 => some .soak | _ => none

def kindCode : StepKind → Byte
  | .steam => 0x01#8 | .dry => 0x02#8 | .refresh => 0x03#8 | .cool => 0x04#8 | .soak => 0x05#8

def resultCode : Result → Byte
  | .done => 0x01#8 | .short => 0x02#8 | .aborted => 0x03#8 | .stalled => 0x04#8 | .masterLost => 0x05#8
  | .faulted => 0x06#8 | .rejected => 0x07#8 | .cancelled => 0x08#8

/-- The result a parking program is reported with (R70). -/
def parkResult : ParkResult → Result
  | .aborted => .aborted | .stalled => .stalled | .masterLost => .masterLost | .faulted => .faulted

def rejectCode : RejectReason → Byte
  | .badKind => 0x01#8 | .badDuration => 0x02#8 | .badProfile => 0x03#8 | .profileForbidsSteam => 0x04#8
  | .goalNotAllowed => 0x05#8

def nakCode : NakReason → Byte
  | .noBay => 0x01#8 | .kindUnknown => 0x02#8 | .notPermitted => 0x03#8 | .lengthBad => 0x04#8 | .valueBad => 0x05#8
  | .badState => 0x06#8 | .position => 0x07#8 | .ringFull => 0x08#8 | .tooLong => 0x09#8 | .outcomeFull => 0x0A#8
  | .storeBusy => 0x0B#8

def statusCode : Status → Byte
  | .ack => 0x00#8
  | .nak r => nakCode r

def bayStateCode : BayState → Byte
  | .absent => 0x00#8 | .idle => 0x01#8 | .waiting => 0x02#8 | .running => 0x03#8 | .held => 0x04#8
  | .parking => 0x05#8 | .faulted => 0x06#8

def boilerStateCode : BoilerState → Byte
  | .cold => 0x00#8 | .fill => 0x01#8 | .heat => 0x02#8 | .ready => 0x03#8 | .starved => 0x04#8 | .locked => 0x05#8

def lockCauseCode : LockCause → Byte
  | .none => 0x00#8 | .overTemperature => 0x01#8 | .cutout => 0x02#8 | .sensor => 0x03#8

def channelStateCode : ChannelState → Byte
  | .unknown => 0x00#8 | .valid => 0x01#8 | .stale => 0x02#8 | .fault => 0x03#8

/-- Start-up has no mode value (R181) and takes no frame; settling is still SLEEP (R186). -/
def modeCode : Phase → Byte
  | .run => 0x00#8 | .standby => 0x01#8 | .sleep => 0x02#8 | .settling => 0x02#8 | .startUp => 0xFF#8

def resetCauseCode : ResetCause → Byte
  | .powerOn => 0x00#8 | .pin => 0x01#8 | .warm => 0x02#8

def commitPhaseCode : CommitPhase → Byte
  | .idle => 0x00#8 | .erasing => 0x01#8 | .checking => 0x02#8 | .writing => 0x03#8 | .verifying => 0x04#8
  | .marking => 0x05#8

def commitResultCode : CommitResult → Byte
  | .none => 0x00#8 | .done => 0x01#8 | .fail => 0x02#8

def outputModeCode : OutputMode → Byte
  | .auto => 0x00#8 | .service => 0x01#8

def damperCode : Damper → Byte
  | .closed => 0x00#8 | .opened => 0x01#8

def holdByte (h : HoldSet) : Byte :=
  flagByte [h.frontOpen, h.paused, h.noSteam, h.noPower, h.tankFull, h.plantStandby]

/-! ### Node addresses (R173) -/

/-- The part's own address. -/
def ownAddress : Byte := 0x40#8

def masterAddress : Master → Byte
  | .supervisor => 0x41#8
  | .panel .b0 => 0x48#8 | .panel .b1 => 0x49#8 | .panel .b2 => 0x4A#8 | .panel .b3 => 0x4B#8

def masterOf (source : Byte) : Option Master :=
  match source.toNat with
  | 0x41 => some .supervisor
  | 0x48 => some (.panel .b0) | 0x49 => some (.panel .b1) | 0x4A => some (.panel .b2) | 0x4B => some (.panel .b3)
  | _ => none

/-! ### Flags and goals of a step record (R1, R10, R192) -/

def isEnd (r : StepRecord) : Bool := r.flags.getLsbD 0
def isNotify (r : StepRecord) : Bool := r.flags.getLsbD 1
def isOpenOk (r : StepRecord) : Bool := r.flags.getLsbD 2
def hasGoal (r : StepRecord) : Bool := r.goal != absentGoal

/-! ### The request kinds (section 12.5) -/

inductive ReqKind where
  | ping | statusPlant | statusBay | eventsRead | eventsClear | eventsMask | stepAppend | queueCancel | outcomeRead
  | outcomeFree | bayPause | bayResume | programAbort | budgetSet | profileRead | profileWrite | profileCommit
  | plantMode | warmRestart | outputService | bayClear | boilerClear
  deriving DecidableEq, Repr

def reqCode : ReqKind → Byte
  | .ping => 0x01#8 | .statusPlant => 0x02#8 | .statusBay => 0x03#8 | .eventsRead => 0x04#8 | .eventsClear => 0x05#8
  | .eventsMask => 0x06#8 | .stepAppend => 0x07#8 | .queueCancel => 0x08#8 | .outcomeRead => 0x09#8
  | .outcomeFree => 0x0A#8 | .bayPause => 0x0B#8 | .bayResume => 0x0C#8 | .programAbort => 0x0D#8
  | .budgetSet => 0x0E#8 | .profileRead => 0x0F#8 | .profileWrite => 0x10#8 | .profileCommit => 0x11#8
  | .plantMode => 0x12#8 | .warmRestart => 0x13#8 | .outputService => 0x14#8 | .bayClear => 0x15#8
  | .boilerClear => 0x16#8

def reqOfCode (c : Byte) : Option ReqKind :=
  match c.toNat with
  | 0x01 => some .ping | 0x02 => some .statusPlant | 0x03 => some .statusBay | 0x04 => some .eventsRead
  | 0x05 => some .eventsClear | 0x06 => some .eventsMask | 0x07 => some .stepAppend | 0x08 => some .queueCancel
  | 0x09 => some .outcomeRead | 0x0A => some .outcomeFree | 0x0B => some .bayPause | 0x0C => some .bayResume
  | 0x0D => some .programAbort | 0x0E => some .budgetSet | 0x0F => some .profileRead | 0x10 => some .profileWrite
  | 0x11 => some .profileCommit | 0x12 => some .plantMode | 0x13 => some .warmRestart | 0x14 => some .outputService
  | 0x15 => some .bayClear | 0x16 => some .boilerClear
  | _ => none

/-- A request with its parameters (section 12.5). -/
inductive Request where
  | ping
  | statusPlant (part : Byte)
  | statusBay (bay part : Byte)
  | eventsRead
  | eventsClear (events : Half)
  | eventsMask (mask : Half)
  | stepAppend (bay expected : Byte) (records : List StepRecord)
  | queueCancel (bay : Byte)
  | outcomeRead (bay : Byte)
  | outcomeFree (bay freed : Byte)
  | bayPause (bay admission : Byte)
  | bayResume (bay admission : Byte)
  | programAbort (bay admission : Byte)
  | budgetSet (value : Half)
  | profileRead (slot : Byte)
  | profileWrite (slot state : Byte) (values : ProfileValues)
  | profileCommit
  | plantMode (mode : Byte)
  | warmRestart
  | outputService (output mode value : Byte)
  | bayClear (bay : Byte)
  | boilerClear
  deriving DecidableEq, Repr

def reqKind : Request → ReqKind
  | .ping => .ping | .statusPlant _ => .statusPlant | .statusBay _ _ => .statusBay | .eventsRead => .eventsRead
  | .eventsClear _ => .eventsClear | .eventsMask _ => .eventsMask | .stepAppend _ _ _ => .stepAppend
  | .queueCancel _ => .queueCancel | .outcomeRead _ => .outcomeRead | .outcomeFree _ _ => .outcomeFree
  | .bayPause _ _ => .bayPause | .bayResume _ _ => .bayResume | .programAbort _ _ => .programAbort
  | .budgetSet _ => .budgetSet | .profileRead _ => .profileRead | .profileWrite _ _ _ => .profileWrite
  | .profileCommit => .profileCommit | .plantMode _ => .plantMode | .warmRestart => .warmRestart
  | .outputService _ _ _ => .outputService | .bayClear _ => .bayClear | .boilerClear => .boilerClear

/-! ### Payloads of requests (R190, R192, section 12.5) -/

/-- A step record's nine bytes (R192). -/
def recordBytes (r : StepRecord) : List Byte :=
  [r.kind, r.flags, r.profile, r.level, hiByte r.duration, loByte r.duration, hiByte r.goal, loByte r.goal, r.tag]

/-- Reads whole step records; none where the bytes are no whole number of records. -/
def parseRecords : List Byte → Option (List StepRecord)
  | [] => some []
  | k :: f :: p :: l :: d1 :: d0 :: g1 :: g0 :: t :: rest =>
    match parseRecords rest with
    | some rs => some (⟨k, f, p, l, halfOf d1 d0, halfOf g1 g0, t⟩ :: rs)
    | none => none
  | _ => none

/-- A STEP_APPEND carries one to four records (R190). -/
def batchOk (records : List StepRecord) : Bool := 1 ≤ records.length && records.length ≤ 4

/-- Reads the parameters of a request; none where the payload's length is not one the kind allows (R190, R193). -/
def parseRequest : ReqKind → List Byte → Option Request
  | .ping, [] => some .ping
  | .statusPlant, [part] => some (.statusPlant part)
  | .statusBay, [bay, part] => some (.statusBay bay part)
  | .eventsRead, [] => some .eventsRead
  | .eventsClear, [h, l] => some (.eventsClear (halfOf h l))
  | .eventsMask, [h, l] => some (.eventsMask (halfOf h l))
  | .stepAppend, bay :: expected :: rest =>
    match parseRecords rest with
    | some rs => if batchOk rs then some (.stepAppend bay expected rs) else none
    | none => none
  | .queueCancel, [bay] => some (.queueCancel bay)
  | .outcomeRead, [bay] => some (.outcomeRead bay)
  | .outcomeFree, [bay, f] => some (.outcomeFree bay f)
  | .bayPause, [bay, n] => some (.bayPause bay n)
  | .bayResume, [bay, n] => some (.bayResume bay n)
  | .programAbort, [bay, n] => some (.programAbort bay n)
  | .budgetSet, [h, l] => some (.budgetSet (halfOf h l))
  | .profileRead, [slot] => some (.profileRead slot)
  | .profileWrite, [slot, state, a1, a0, d1, d0, f1, f0, o1, o0, y1, y0, t1, t0] =>
    some (.profileWrite slot state
      ⟨halfOf a1 a0, halfOf d1 d0, halfOf f1 f0, halfOf o1 o0, halfOf y1 y0, halfOf t1 t0⟩)
  | .profileCommit, [] => some .profileCommit
  | .plantMode, [mode] => some (.plantMode mode)
  | .warmRestart, [] => some .warmRestart
  | .outputService, [output, mode, value] => some (.outputService output mode value)
  | .bayClear, [bay] => some (.bayClear bay)
  | .boilerClear, [] => some .boilerClear
  | _, _ => none

/-- The payload of a request (R190, section 12.5). -/
def requestBytes : Request → List Byte
  | .ping => []
  | .statusPlant part => [part]
  | .statusBay bay part => [bay, part]
  | .eventsRead => []
  | .eventsClear e => halfBytes e
  | .eventsMask m => halfBytes m
  | .stepAppend bay expected rs => bay :: expected :: rs.flatMap recordBytes
  | .queueCancel bay => [bay]
  | .outcomeRead bay => [bay]
  | .outcomeFree bay f => [bay, f]
  | .bayPause bay n => [bay, n]
  | .bayResume bay n => [bay, n]
  | .programAbort bay n => [bay, n]
  | .budgetSet v => halfBytes v
  | .profileRead slot => [slot]
  | .profileWrite slot state v =>
    slot :: state :: (halfBytes v.maxAirTemp ++ halfBytes v.maxDose ++ halfBytes v.maxFan ++ halfBytes v.maxOsc ++
      halfBytes v.dryFloor ++ halfBytes v.maxStep)
  | .profileCommit => []
  | .plantMode mode => [mode]
  | .warmRestart => []
  | .outputService output mode value => [output, mode, value]
  | .bayClear bay => [bay]
  | .boilerClear => []

/-! ### Outputs that can be serviced (R188, section 12.4) -/

inductive OutputId where
  | fan (b : Bay)
  | damper (b : Bay)
  | osc (b : Bay)
  | pump
  deriving DecidableEq, Repr

/-- The output an index names: 0xn0 fan, 0xn1 damper, 0xn2 oscillator of bay n, 0x40 fill pump. -/
def outputOf (index : Byte) : Option OutputId :=
  if index = 0x40#8 then some .pump
  else match Bay.ofNat? (index.toNat / 16), index.toNat % 16 with
    | some b, 0 => some (.fan b)
    | some b, 1 => some (.damper b)
    | some b, 2 => some (.osc b)
    | _, _ => none

/-- The bay an output belongs to. -/
def outputBay : OutputId → Option Bay
  | .fan b => some b | .damper b => some b | .osc b => some b | .pump => none

/-! ### The common checks' view of a request (R175) -/

/-- Check 5: each index the request names lies in its range. -/
def indexOk : Request → Bool
  | .statusPlant part => decide (part.toNat ≤ 3)
  | .statusBay bay part => (bayOf bay).isSome && decide (part.toNat ≤ 1)
  | .stepAppend bay _ _ => (bayOf bay).isSome
  | .queueCancel bay => (bayOf bay).isSome
  | .outcomeRead bay => (bayOf bay).isSome
  | .outcomeFree bay _ => (bayOf bay).isSome
  | .bayPause bay _ => (bayOf bay).isSome
  | .bayResume bay _ => (bayOf bay).isSome
  | .programAbort bay _ => (bayOf bay).isSome
  | .profileRead slot => decide (slot.toNat ≤ 15)
  | .profileWrite slot _ _ => decide (slot.toNat ≤ 15)
  | .outputService output _ _ => (outputOf output).isSome
  | .bayClear bay => (bayOf bay).isSome
  | .ping => true
  | .eventsRead => true
  | .eventsClear _ => true
  | .eventsMask _ => true
  | .budgetSet _ => true
  | .profileCommit => true
  | .plantMode _ => true
  | .warmRestart => true
  | .boilerClear => true

/-- The bay a request names, if it names one. -/
def bayNamed : Request → Option Bay
  | .statusBay bay _ => bayOf bay
  | .stepAppend bay _ _ => bayOf bay
  | .queueCancel bay => bayOf bay
  | .outcomeRead bay => bayOf bay
  | .outcomeFree bay _ => bayOf bay
  | .bayPause bay _ => bayOf bay
  | .bayResume bay _ => bayOf bay
  | .programAbort bay _ => bayOf bay
  | .outputService output _ _ => (outputOf output).bind outputBay
  | .bayClear bay => bayOf bay
  | .ping => none
  | .statusPlant _ => none
  | .eventsRead => none
  | .eventsClear _ => none
  | .eventsMask _ => none
  | .budgetSet _ => none
  | .profileRead _ => none
  | .profileWrite _ _ _ => none
  | .profileCommit => none
  | .plantMode _ => none
  | .warmRestart => none
  | .boilerClear => none

/-- Check 4, for a request whose parameters are already read: the number of records of a STEP_APPEND (R190). -/
def lengthOk : Request → Bool
  | .stepAppend _ _ records => batchOk records
  | _ => true

/-- Check 3: the entitlement table of R176. -/
def entitled : Master → ReqKind → Bool
  | _, .ping => true
  | _, .statusPlant => true
  | _, .statusBay => true
  | _, .eventsRead => true
  | _, .eventsClear => true
  | _, .eventsMask => true
  | _, .outcomeRead => true
  | _, .programAbort => true
  | .panel _, .stepAppend => true
  | .panel _, .queueCancel => true
  | .panel _, .outcomeFree => true
  | .panel _, .bayPause => true
  | .panel _, .bayResume => true
  | .supervisor, .budgetSet => true
  | .supervisor, .profileRead => true
  | .supervisor, .profileWrite => true
  | .supervisor, .profileCommit => true
  | .supervisor, .plantMode => true
  | .supervisor, .warmRestart => true
  | .supervisor, .outputService => true
  | .supervisor, .bayClear => true
  | .supervisor, .boilerClear => true
  | _, _ => false

/-- Check 7: a bay master names its own bay. -/
def ownBay (m : Master) (b : Bay) : Bool :=
  match m with
  | .supervisor => true
  | .panel own => decide (own = b)

/-! ### Outcome and profile records (R192) -/

/-- An outcome record's 6 to 13 bytes. -/
def outcomeBytes (o : Outcome) : List Byte :=
  [o.sequence, resultCode o.result, o.tag,
    flagByte [o.final, o.clamped, o.stepIndex.isSome, o.times.isSome, o.steamDg.isSome, o.ends.isSome,
      o.reject.isSome, o.removed.isSome]] ++
  (match o.stepIndex with | some i => [byteOf i] | none => []) ++
  (match o.times with | some (r, h) => bytes2 r ++ bytes2 h | none => []) ++
  (match o.steamDg with | some d => bytes2 d | none => []) ++
  (match o.ends with | some (t, h) => [byteOf t, byteOf h] | none => []) ++
  (match o.reject with | some (i, r) => [byteOf i, rejectCode r] | none => []) ++
  (match o.removed with | some (p, n) => [byteOf p, byteOf n] | none => [])

/-- The oldest records that fit whole in `room` bytes, at most `most` of them (R146). -/
def fitRecords : Nat → Nat → List Outcome → List Outcome
  | 0, _, _ => []
  | _, _, [] => []
  | most + 1, room, o :: rest =>
    if (outcomeBytes o).length ≤ room then o :: fitRecords most (room - (outcomeBytes o).length) rest else []

/-- A profile record's nine bytes; an EMPTY slot is all ones after its state (R192). -/
def profileBytes : Option Profile → List Byte
  | none => 0x00#8 :: List.replicate 8 0xFF#8
  | some p =>
    [0x01#8, byteOf p.maxAirTemp] ++ bytes2 p.maxDose ++ [byteOf p.maxFan, byteOf p.maxOsc, byteOf p.dryFloor] ++
      bytes2 p.maxStep

/-! ### The CRC (R172) -/

/-- One bit into the check register. -/
def crcBit (r : Half) (bit : Bool) : Half :=
  if r.getLsbD 15 != bit then (r <<< 1) ^^^ 0x1021#16 else r <<< 1

/-- One byte into the check register, most significant bit first. -/
def crcByte (r : Half) (b : Byte) : Half :=
  crcBit (crcBit (crcBit (crcBit (crcBit (crcBit (crcBit (crcBit r (b.getLsbD 7)) (b.getLsbD 6)) (b.getLsbD 5))
    (b.getLsbD 4)) (b.getLsbD 3)) (b.getLsbD 2)) (b.getLsbD 1)) (b.getLsbD 0)

/-- The CRC of a sequence of bytes. -/
def crc16 (bytes : List Byte) : Half := bytes.foldl crcByte 0xFFFF#16

/-- The CRC of a frame: destination, source, kind, length and payload. -/
def frameCrc (dest source kind : Byte) (payload : List Byte) : Half :=
  crc16 (dest :: source :: kind :: byteOf payload.length :: payload)

/-! ### Characters (R168, R169) -/

/-- A character as handed to frame assembly. -/
structure RxChar where
  byte : Byte
  mark : Bool
  noise : Bool
  framing : Bool
  isBreak : Bool
  deriving DecidableEq, Repr

/-- Each bit is the majority of its samples 7, 8 and 9. -/
def majority (c : CharSamples) : BitVec 11 := (c.s7 &&& c.s8) ||| (c.s7 &&& c.s9) ||| (c.s8 &&& c.s9)

/-- The character received, or none for a false start (R169). -/
def receiveChar (c : CharSamples) : Option RxChar :=
  let w := majority c
  if w.getLsbD 0 then none
  else some
    { byte := w.extractLsb' 1 8, mark := w.getLsbD 9
      noise := !(decide (c.s7 = c.s8) && decide (c.s8 = c.s9))
      framing := !w.getLsbD 10, isBreak := decide (w = 0#11) }

/-- The eleven bits of a character: start 0, the byte, the mark bit, stop 1 (R168). -/
def charWord (mark : Bool) (byte : Byte) : BitVec 11 :=
  (1#1 ++ (BitVec.ofBool mark ++ (byte ++ 0#1)) : BitVec (1 + (1 + (8 + 1)))).setWidth 11

/-- A character received without noise. -/
def cleanChar (mark : Bool) (byte : Byte) : CharSamples := ⟨charWord mark byte, charWord mark byte, charWord mark byte⟩

/-- The characters of a frame (R190). -/
def frameChars (dest source kind : Byte) (payload : List Byte) : List WireChar :=
  ⟨true, dest⟩ :: ([source, kind, byteOf payload.length] ++ payload ++
    halfBytes (frameCrc dest source kind payload)).map (WireChar.mk false)

/-- The payload of a response frame: status, response flags, owner's payload (R190). -/
def responsePayload (r : Response) : List Byte := statusCode r.status :: flagByte [r.noise] :: r.payload

/-- The characters of a response frame (R178, R190). -/
def responseChars (r : Response) : List WireChar :=
  frameChars (masterAddress r.dest) ownAddress r.kind (responsePayload r)

end Sys2Proof.Machine
end

