-- ==== Sys2Proof/Machine/Ops.lean ====
section
/-! DEFINITION. Shared operations of one event: replacing a bay's part of a block, posting outcomes (OAU), driving the
outputs of a bay (ALC, BLC), withdrawing grants (PAE), and the hold-reason set (BSQ). -/

namespace Sys2Proof.Machine

/-! ### Access -/

def setBsq (b : Bay) (q : Bsq) (s : State) : State := { s with bsq := s.bsq.set b q }
def setRing (b : Bay) (r : StepRing) (s : State) : State := { s with srs := s.srs.set b r }
def setOutcomes (b : Bay) (o : OutcomeRing) (s : State) : State := { s with oau := s.oau.set b o }
def setOutputs (b : Bay) (o : BayOutputs) (s : State) : State :=
  { s with alc := { s.alc with bays := s.alc.bays.set b o } }

/-- Replaces the context of a bay. -/
def setContext (b : Bay) (c : Option Context) (s : State) : State :=
  setBsq b { s.bsq.get b with context := c } s

/-- Does something for every bay in ascending index. -/
def forBays (f : Bay → State → State) (s : State) : State := f .b3 (f .b2 (f .b1 (f .b0 s)))

/-- The clamped copy of a context's current step (R42). -/
def contextCopy (c : Context) : Option StepCopy := c.copies[c.index]?

/-- The clamped copy of a bay's current step. -/
def currentCopy (q : Bsq) : Option StepCopy := q.context.bind contextCopy

/-- The copy of the current step while the bay is RUNNING. -/
def runningCopy (q : Bsq) : Option StepCopy := if q.state = .running then currentCopy q else none

/-- The copy of a started step: RUNNING or HELD (R39). -/
def startedCopy (q : Bsq) : Option StepCopy :=
  if q.state = .running ∨ q.state = .held then currentCopy q else none

/-- The kind of a copy, where there is one. -/
def copyIs (k : StepKind) (c : Option StepCopy) : Bool :=
  match c with | some c => decide (c.kind = k) | none => false

/-- The current step is the last of its program (R42). -/
def isFinalStep (c : Context) : Bool := decide (c.stepCount ≤ c.index + 1)

/-- The posted record of the current step: the head of the ring (R22). -/
def headRecord (b : Bay) (s : State) : Option StepRecord := (s.srs.get b).records.head?

/-- The tag of the current step (R1; 0 where no record is there, which no run reaches, log 23). -/
def headTag (b : Bay) (s : State) : Byte := match headRecord b s with | some r => r.tag | none => 0

/-- The current step carries NOTIFY. -/
def headNotify (b : Bay) (s : State) : Bool := match headRecord b s with | some r => isNotify r | none => false

/-- Both bay channels are VALID. -/
def bothValid (b : Bay) (s : State) : Bool :=
  decide ((s.snu.temps.get b).state = .valid) && decide ((s.snu.hums.get b).state = .valid)

/-- end_temp and end_rh of an outcome posted now (R142). -/
def endValues (b : Bay) (s : State) : Option (Nat × Nat) :=
  if bothValid b s then
    match (s.snu.temps.get b).last, (s.snu.hums.get b).last with
    | some t, some h => some (t, h)
    | _, _ => none
  else none

/-! ### Rings -/

/-- Removes `n` records from the head of a step ring and advances C (R21). -/
def removeHead (b : Bay) (n : Nat) (s : State) : State :=
  let r := s.srs.get b
  setRing b { r with records := r.records.drop n, c := r.c + BitVec.ofNat 8 n } s

/-- The complete programs behind the admitted part (R22). -/
def queuedPrograms (r : StepRing) : Nat := ((r.records.drop r.admitted).filter isEnd).length

/-- The oldest program of a ring: the records up to the first that carries PROGRAM_END (R11). -/
def headProgram : List StepRecord → Option (List StepRecord)
  | [] => none
  | r :: rest => if isEnd r then some [r] else (headProgram rest).map (r :: ·)

/-- Free unreserved entries of an outcome ring (R144). -/
def freeEntries (o : OutcomeRing) : Nat :=
  outcomePlaces - o.records.length - o.reservation.toNat - o.promise.toNat

/-- What a posted record stands for (R145). -/
inductive PostRole where
  | final | notify | other
  deriving DecidableEq, Repr

/-- Posts an outcome record (R145): it takes Q as its sequence, the flag it stands for is cleared, and OUTCOME_READY
becomes true if the ring was empty. -/
def postOutcome (b : Bay) (role : PostRole) (rec : Outcome) (s : State) : State :=
  let o := s.oau.get b
  let s1 := setOutcomes b
    { o with
      records := o.records ++ [{ rec with sequence := o.q }]
      q := o.q + 1
      reservation := if role = .final then false else o.reservation
      promise := if role = .notify then false else o.promise } s
  if o.records.isEmpty then raisePanel b .outcomeReady s1 else s1

/-! ### The automatic outputs of a bay (R78, R118) -/

def autoFan (q : Bsq) : Nat :=
  match q.state with
  | .running => match currentCopy q with | some c => c.fanCeiling | none => 0
  | .parking => parkFan
  | _ => 0

def autoDamper (q : Bsq) : Damper :=
  match q.state with
  | .running => if copyIs .dry (currentCopy q) || copyIs .cool (currentCopy q) then .opened else .closed
  | .parking => .opened
  | _ => .closed

def autoOsc (q : Bsq) : Nat :=
  match q.state with
  | .running =>
    match currentCopy q with | some c => if c.kind = .refresh then c.oscRate else 0 | none => 0
  | _ => 0

/-- An output is driven at its service value in SERVICE and at its automatic value in AUTO (R116, R118). -/
def driveServiced {α : Type} (auto : α) (o : Serviced α) : Serviced α :=
  { o with driven := if o.mode = .service then o.service else auto, awaiting := false }

/-- Drives a bay's fan, damper and oscillator in an event that changes the bay state or step (R118). -/
def driveAir (b : Bay) (s : State) : State :=
  let o := s.alc.bays.get b
  let q := s.bsq.get b
  setOutputs b
    { o with
      fan := driveServiced (autoFan q) o.fan
      damper := driveServiced (autoDamper q) o.damper
      osc := driveServiced (autoOsc q) o.osc } s

/-- The auxiliary heater demand (R89): 50 W for each degree below the limit, at most 50 W a level. -/
def auxDemand (b : Bay) (s : State) : Nat :=
  match runningCopy (s.bsq.get b), s.snu.temps.get b with
  | some c, ch =>
    if (c.kind = .dry ∨ c.kind = .refresh) ∧ ch.state = .valid then
      match c.tempLimit, ch.last with
      | some limit, some t => auxQuantum * min (limit - t) c.level
      | _, _ => 0
    else 0
  | none, _ => 0

/-- Forms the demand anew (R122). -/
def formDemand (b : Bay) (s : State) : State :=
  setOutputs b { s.alc.bays.get b with demand := auxDemand b s } s

/-- Whether a bay's steam valve stands open (R115). -/
def valveOpen (b : Bay) (s : State) : Bool :=
  s.fitted.get b && decide (s.blc.state = .ready) && !(s.snu.fronts.get b).filtered &&
    copyIs .steam (runningCopy (s.bsq.get b))

/-- Drives a bay's steam valve (R115). -/
def driveValve (b : Bay) (s : State) : State :=
  { s with blc := { s.blc with valves := s.blc.valves.set b (valveOpen b s) } }

/-- What follows a change of a bay's state or current step: outputs, demand and valve (R115, R118, R122). -/
def driveBay (b : Bay) (s : State) : State := driveValve b (formDemand b (driveAir b s))

/-! ### Withdrawals (R94) -/

/-- Withdraws a bay's auxiliary heater entry and sets its drive to 0 W (R94, R123). -/
def withdrawAux (b : Bay) (s : State) : State :=
  let g := s.pae.grants
  let s1 := { s with pae := { s.pae with
    grants := { g with
      aux := g.aux.set b 0
      class2 := g.class2 - g.aux.get b
      unallotted := g.unallotted + g.aux.get b } } }
  setOutputs b { s1.alc.bays.get b with drive := 0 } s1

/-- Withdraws the boiler heater entry; the heater is off from then on (R94). -/
def withdrawBoiler (s : State) : State :=
  let g := s.pae.grants
  { s with
    pae := { s.pae with
      grants := { g with boiler := 0, class2 := g.class2 - g.boiler, unallotted := g.unallotted + g.boiler } }
    blc := { s.blc with heaterDrive := 0 } }

/-- Withdraws the compressor entry (R94). -/
def withdrawCompressor (s : State) : State :=
  let g := s.pae.grants
  { s with pae := { s.pae with
    grants := { g with compressor := 0, class1 := g.class1 - g.compressor,
                       unallotted := g.unallotted + g.compressor } } }

/-! ### Hold reasons (R46) -/

def holdsEmpty (h : HoldSet) : Bool := decide (h = HoldSet.empty)

/-- The set holds a plant reason (R54). -/
def hasPlantReason (h : HoldSet) : Bool := h.noSteam || h.noPower || h.tankFull || h.plantStandby

/-- The set holds no reason other than NO_POWER (R50, R81). -/
def onlyNoPower (h : HoldSet) : Bool :=
  !h.frontOpen && !h.paused && !h.noSteam && !h.tankFull && !h.plantStandby

/-- FRONT_OPEN is to be held: the filtered front reads open and the step carries no effective OPEN_OK (R46, R47). -/
def frontHolds (b : Bay) (c : StepCopy) (s : State) : Bool := (s.snu.fronts.get b).filtered && !c.openOk
/-- NO_STEAM is to be held (R49). -/
def steamHolds (c : StepCopy) (s : State) : Bool := decide (c.kind = .steam) && decide (s.blc.state ≠ .ready)
/-- NO_POWER is to be held (R50). -/
def powerHolds (c : StepCopy) (s : State) : Bool := decide (c.kind = .dry) && decide (s.pae.grants.compressor = 0)
/-- TANK_FULL is to be held (R51). -/
def tankHolds (c : StepCopy) (s : State) : Bool :=
  (decide (c.kind = .steam) || decide (c.kind = .dry)) && s.snu.condFull.filtered
/-- PLANT_STANDBY is to be held (R51). -/
def standbyHolds (s : State) : Bool := decide (s.moc.phase = .standby)

/-- The whole set from the conditions as they stand, for a step that starts (R45). -/
def formHolds (b : Bay) (x : Context) (c : StepCopy) (s : State) : HoldSet :=
  { frontOpen := frontHolds b c s, paused := x.paused, noSteam := steamHolds c s, noPower := powerHolds c s,
    tankFull := tankHolds c s, plantStandby := standbyHolds s }

/-- Puts a new hold-reason set to a started step: HOLD_CHANGE if it changed, and the moves between RUNNING and HELD with
what follows them (R40, R46, R52, R54, R57, R94). -/
def changeHolds (b : Bay) (h : HoldSet) (s : State) : State :=
  let q := s.bsq.get b
  if q.holds = h then s
  else match q.state, q.context with
    | .running, some x =>
      if holdsEmpty h then raisePanel b .holdChange (setBsq b { q with holds := h } s)
      else
        driveBay b <| withdrawAux b <| raisePanel b .stateChange <| raisePanel b .holdChange <|
          setBsq b { q with holds := h, state := .held, context := some { x with satisfied := 0 } } s
    | .held, some x =>
      if holdsEmpty h then
        driveBay b <| raisePanel b .stateChange <| raisePanel b .holdChange <|
          setBsq b { q with holds := h, state := .running, context := some { x with stallTimer := 0 } } s
      else raisePanel b .holdChange (setBsq b { q with holds := h } s)
    | _, _ => s

/-- Re-evaluates FRONT_OPEN of a bay (R47). -/
def reholdFront (b : Bay) (s : State) : State :=
  match startedCopy (s.bsq.get b) with
  | some c => changeHolds b { (s.bsq.get b).holds with frontOpen := frontHolds b c s } s
  | none => s

/-- Re-evaluates NO_STEAM of a bay (R49). -/
def reholdSteam (b : Bay) (s : State) : State :=
  match startedCopy (s.bsq.get b) with
  | some c => changeHolds b { (s.bsq.get b).holds with noSteam := steamHolds c s } s
  | none => s

/-- Re-evaluates NO_POWER of a bay (R50). -/
def reholdPower (b : Bay) (s : State) : State :=
  match startedCopy (s.bsq.get b) with
  | some c => changeHolds b { (s.bsq.get b).holds with noPower := powerHolds c s } s
  | none => s

/-- Re-evaluates TANK_FULL of a bay (R51). -/
def reholdTank (b : Bay) (s : State) : State :=
  match startedCopy (s.bsq.get b) with
  | some c => changeHolds b { (s.bsq.get b).holds with tankFull := tankHolds c s } s
  | none => s

/-- Re-evaluates PLANT_STANDBY of a bay (R51). -/
def reholdStandby (b : Bay) (s : State) : State :=
  match startedCopy (s.bsq.get b) with
  | some _ => changeHolds b { (s.bsq.get b).holds with plantStandby := standbyHolds s } s
  | none => s

/-! ### The compressor (R80, R84, R125) -/

/-- The compressor turns OFF: its min-off timer starts at 0 and its drive goes off (R80, R125). -/
def compressorOff (s : State) : State :=
  { s with
    pae := { s.pae with compressorOn := false, minOff := 0 }
    alc := { s.alc with compressorDrive := false } }

/-- The compressor is turned OFF at once, its entry withdrawn, and each DRY step in progress takes NO_POWER; a compressor
already OFF is not changed (R84). -/
def forceCompressorOff (s : State) : State :=
  if s.pae.compressorOn then forBays reholdPower (withdrawCompressor (compressorOff s)) else s

/-! ### The effective budget (R75) -/

def effectiveBudget (present : Bool) (budget : Nat) : Nat := if present then budget else min budget fallbackBudget

/-- Forms E anew (R75). -/
def formEffective (s : State) : State :=
  { s with pae := { s.pae with effective := effectiveBudget s.supervisor.present s.pae.budget } }

end Sys2Proof.Machine
end

