-- ==== Sys2Proof/Machine/BoilerOps.lean ====
section
/-! DEFINITION. The boiler's transitions (chapter 5): one operation for every change of boiler state, and the moves made
of it. -/

namespace Sys2Proof.Machine

/-- A program whose current or a later step is STEAM (R97). -/
def contextWantsSteam (x : Context) : Bool := (x.copies.drop x.index).any fun c => decide (c.kind = .steam)

/-- A bay in WAITING, RUNNING or HELD wants steam (R97). -/
def bayWantsSteam (q : Bsq) : Bool :=
  match q.state, q.context with
  | .waiting, some x => contextWantsSteam x
  | .running, some x => contextWantsSteam x
  | .held, some x => contextWantsSteam x
  | _, _ => false

/-- Steam is wanted (R97). -/
def steamWanted (s : State) : Bool :=
  decide (s.moc.phase = .run) && s.bsq.toList.any bayWantsSteam

/-- The boiler is heated in this state (R88, R94). -/
def isHot (b : BoilerState) : Bool := decide (b = .heat) || decide (b = .ready)

/-- The BLC's own part of a change of state: timers, carry and, in AUTO, the pump (R95, R99, R100, R104, R105). -/
def moveBlc (next : BoilerState) (pumpAuto : Bool) (b : Blc) : Blc :=
  { b with
    state := next
    fillTimer := 0
    idleTimer := if isHot b.state && isHot next then b.idleTimer else 0
    carry := if b.state = .ready then 0 else b.carry
    pumpDrive := if pumpAuto then decide (next = .fill) else b.pumpDrive }

/-- The boiler goes to another state: BOILER_CHANGE, its grant withdrawn on leaving HEAT and READY, and NO_STEAM and the
valves of every bay re-evaluated (R49, R94, R95, R104, R115). -/
def toBoiler (next : BoilerState) (s : State) : State :=
  if s.blc.state = next then s
  else
    let s1 := { s with blc := moveBlc next (decide (s.moc.pumpMode = .auto)) s.blc }
    let s2 := if isHot s.blc.state && !isHot next then withdrawBoiler s1 else s1
    forBays driveValve (forBays reholdSteam (raiseSup .boilerChange s2))

/-- The boiler is sent towards FILL, or is STARVED while the fresh-water tank reads empty (R99). -/
def towardsFill (s : State) : State :=
  if s.snu.freshEmpty.filtered then toBoiler .starved s else toBoiler .fill s

/-- The boiler channel is VALID and its value satisfies a test. -/
def boilerTempIs (test : Nat → Bool) (s : State) : Bool :=
  match s.snu.boilerTemp.state, s.snu.boilerTemp.last with
  | .valid, some t => test t
  | _, _ => false

/-- Entry to HEAT from COLD or FILL, with the check that may take it on to READY (R103). -/
def enterHeat (s : State) : State :=
  let s1 := toBoiler .heat s
  if boilerTempIs (fun t => decide (readyTemp ≤ t)) s1 then toBoiler .ready s1 else s1

/-- Examines the start of a COLD boiler (R98). -/
def examineStart (s : State) : State :=
  if s.blc.state = .cold ∧ steamWanted s = true ∧ s.snu.boilerCutout.filtered = false ∧
      s.snu.boilerTemp.state = .valid ∧ s.moc.pumpMode = .auto then
    if s.snu.boilerWaterOk.filtered then enterHeat s else towardsFill s
  else s

/-- Steam may have become wanted: the idle cooldown timer returns to 0 and a COLD boiler's start is examined (R97, R98,
R105). -/
def examineSteam (s : State) : State :=
  if steamWanted s then examineStart { s with blc := { s.blc with idleTimer := 0 } } else s

/-- A lock condition: a boiler not yet LOCKED records the cause and locks (R106). -/
def lockBoiler (cause : LockCause) (s : State) : State :=
  if s.blc.state = .locked then s
  else toBoiler .locked { s with blc := { s.blc with cause := cause } }

/-- A STARVED boiler whose tank is not empty, and whose pump is in AUTO, goes towards FILL (R101, R109). -/
def refill (s : State) : State :=
  if s.blc.state = .starved ∧ s.moc.pumpMode = .auto ∧ s.snu.freshEmpty.filtered = false then towardsFill s else s

/-- STANDBY and warm restart send a boiler that is not LOCKED to COLD (R96, R108). -/
def coolBoiler (s : State) : State := if s.blc.state = .locked then s else toBoiler .cold s

end Sys2Proof.Machine
end

