-- ==== Sys2Proof/Machine/Sequencer.lean ====
section
/-! DEFINITION. The bay sequencer (chapters 1 to 3): validation and clamping, admission, the entry, start and end of steps,
and parking. -/

namespace Sys2Proof.Machine

/-! ### Validation and clamping (R15, R18, R19) -/

/-- The profile a record names, if its slot is VALID. -/
def profileOf (table : ProfileTable) (r : StepRecord) : Option Profile := (table[r.profile.toNat]?).join

/-- The first check of R15 that a step fails. -/
def stepFailure (table : ProfileTable) (r : StepRecord) : Option RejectReason :=
  match kindOfCode r.kind with
  | none => some .badKind
  | some k =>
    if r.duration = 0#16 then some .badDuration
    else match profileOf table r with
      | none => some .badProfile
      | some p =>
        if k = .steam ∧ p.maxDose = 0 then some .profileForbidsSteam
        else if k = .soak ∧ hasGoal r = true then some .goalNotAllowed
        else none

/-- The first step, from index `i`, that fails a check, with its reason and tag (R15, R16). -/
def firstFailure (table : ProfileTable) : Nat → List StepRecord → Option (Nat × RejectReason × Byte)
  | _, [] => none
  | i, r :: rest =>
    match stepFailure table r with
    | some reason => some (i, reason, r.tag)
    | none => firstFailure table (i + 1) rest

/-- The clamped level (R18). -/
def clampLevel (n : Nat) : Nat := min 8 (max 1 n)

/-- The clamped goal of a kind (R18). -/
def clampGoal (k : StepKind) (p : Profile) (g : Nat) : Nat :=
  match k with
  | .steam => min p.maxDose (max 1 g)
  | .dry => max p.dryFloor (min 100 g)
  | .cool => min 90 g
  | .refresh => min p.maxOsc g
  | .soak => g

/-- OPEN_OK is honoured on COOL and SOAK only (R13). -/
def keepsOpenOk (k : StepKind) : Bool := decide (k = .cool) || decide (k = .soak)

/-- The effective target of a step (R10, R19). -/
def effectiveTarget (k : StepKind) (p : Profile) (r : StepRecord) : Option Nat :=
  match k with
  | .steam => some (if hasGoal r then clampGoal .steam p r.goal.toNat else p.maxDose)
  | .dry => if hasGoal r then some (clampGoal .dry p r.goal.toNat) else none
  | .cool => if hasGoal r then some (clampGoal .cool p r.goal.toNat) else none
  | .refresh => none
  | .soak => none

/-- The clamped copy of a step (R19). -/
def clampStep (k : StepKind) (p : Profile) (r : StepRecord) : StepCopy where
  kind := k
  level := clampLevel r.level.toNat
  duration := min p.maxStep r.duration.toNat
  target := effectiveTarget k p r
  goalGiven := hasGoal r
  tempLimit :=
    match k with
    | .dry => some p.maxAirTemp
    | .refresh => some (p.maxAirTemp - 10)
    | _ => none
  fanCeiling :=
    match k with
    | .dry => min (clampLevel r.level.toNat) p.maxFan
    | .refresh => min (clampLevel r.level.toNat) p.maxFan
    | .cool => p.maxFan
    | .steam => steamFan
    | .soak => 0
  oscRate :=
    match k with
    | .refresh => if hasGoal r then clampGoal .refresh p r.goal.toNat else p.maxOsc
    | _ => 0
  openOk := isOpenOk r && keepsOpenOk k

/-- A clamp of R18 changes a value of the step (R20). -/
def stepClamped (k : StepKind) (p : Profile) (r : StepRecord) : Bool :=
  decide (clampLevel r.level.toNat ≠ r.level.toNat) ||
  decide (p.maxStep < r.duration.toNat) ||
  (hasGoal r && decide (clampGoal k p r.goal.toNat ≠ r.goal.toNat)) ||
  (isOpenOk r && !keepsOpenOk k)

/-- The clamped copies of a program that passed its checks, and its clamped flag (R17 to R20). -/
def clampProgram (table : ProfileTable) : List StepRecord → List StepCopy × Bool
  | [] => ([], false)
  | r :: rest =>
    let (copies, clamped) := clampProgram table rest
    match kindOfCode r.kind, profileOf table r with
    | some k, some p => (clampStep k p r :: copies, stepClamped k p r || clamped)
    | _, _ => (copies, clamped)

/-! ### Entering and starting a step (R43 to R45) -/

/-- The context of a step that has counted nothing (R42, R45). -/
def zeroStep (x : Context) : Context := { x with stepTimer := 0, stallTimer := 0, satisfied := 0, delivered := 0 }

/-- Puts a bay to RUNNING or HELD by the hold-reason set formed as its step starts (R45, R40). -/
def settleStart (b : Bay) (x : Context) (h : HoldSet) (s : State) : State :=
  let q := s.bsq.get b
  let s1 := setBsq b
    { q with state := if holdsEmpty h then .running else .held, holds := h, context := some x } s
  let s2 := raisePanel b .stateChange s1
  driveBay b (if q.holds = h then s2 else raisePanel b .holdChange s2)

/-- Sets the promise of an entry for a non-final NOTIFY step (R59, R144). -/
def promiseStep (b : Bay) (x : Context) (s : State) : State :=
  if headNotify b s && !isFinalStep x then setOutcomes b { s.oau.get b with promise := true } s else s

/-- Starts the current step (R45). -/
def startStep (b : Bay) (s : State) : State :=
  match (s.bsq.get b).context with
  | some x =>
    match contextCopy x with
    | some c => settleStart b (zeroStep x) (formHolds b x c s) (promiseStep b x s)
    | none => s
  | none => s

/-- The current step must wait for an outcome entry (R43). -/
def mustWait (b : Bay) (x : Context) (s : State) : Bool :=
  headNotify b s && !isFinalStep x && decide (freeEntries (s.oau.get b) = 0)

/-- Enters the step of an index: WAITING, or started at once (R43; its counts are 0 from here, DEDUCED, log 17). -/
def enterStep (b : Bay) (index : Nat) (s : State) : State :=
  match (s.bsq.get b).context with
  | some x =>
    let x1 := { zeroStep x with index := index, heldTime := 0 }
    let s1 := raisePanel b .stateChange (setContext b (some x1) s)
    if mustWait b x1 s1 then
      driveBay b (setBsq b { s1.bsq.get b with state := .waiting, holds := HoldSet.empty } s1)
    else startStep b s1
  | none => s

/-! ### Admission (R33 to R36) -/

/-- None of the bay's outputs is in SERVICE. -/
def noneServiced (o : BayOutputs) : Bool :=
  decide (o.fan.mode = .auto) && decide (o.damper.mode = .auto) && decide (o.osc.mode = .auto)

/-- The conditions of admission (R33). -/
def admissible (b : Bay) (s : State) : Bool :=
  decide ((s.bsq.get b).state = .idle) && (s.panels.get b).present && decide (s.moc.phase = .run) &&
    noneServiced (s.alc.bays.get b) && bothValid b s && decide (1 ≤ freeEntries (s.oau.get b))

/-- Rejects the program at the head of the ring (R16, R29). -/
def rejectProgram (b : Bay) (steps index : Nat) (reason : RejectReason) (tag : Byte) (s : State) : State :=
  removeHead b steps <| postOutcome b .other
    { sequence := 0, result := .rejected, final := true, tag := tag, clamped := false, stepIndex := some index,
      times := none, steamDg := none, ends := endValues b s, reject := some (index, reason), removed := none } s

/-- Accepts the program at the head of the ring (R17, R35). Step 0 is started first and a COLD boiler's start (R97, R98) is
examined after it; the manual gives no order of the two inside the event (DESIGN CHOICE, unsafe, log 27). -/
def acceptProgram (b : Bay) (program : List StepRecord) (s : State) : State :=
  let (copies, clamped) := clampProgram s.pts.table program
  let q := s.bsq.get b
  let s1 := setOutcomes b { s.oau.get b with reservation := true } s
  let s2 := setRing b { s.srs.get b with admitted := program.length } s1
  let s3 := setBsq b
    { q with
      admission := q.admission + 1
      context := some
        { stepCount := program.length, copies := copies, clamped := clamped, index := 0, paused := false,
          stepTimer := 0, heldTime := 0, stallTimer := 0, satisfied := 0, delivered := 0, pendingResult := none } } s2
  examineSteam (enterStep b 0 s3)

/-- Takes up programs while the conditions hold, until one is accepted (R33, R34). -/
def admitPrograms : Nat → Bay → State → State
  | 0, _, s => s
  | n + 1, b, s =>
    if admissible b s then
      match headProgram (s.srs.get b).records with
      | some program =>
        match firstFailure s.pts.table 0 program with
        | some (i, reason, tag) => admitPrograms n b (rejectProgram b program.length i reason tag s)
        | none => acceptProgram b program s
      | none => s
    else s

/-- Examines admission for a bay (R34). Each rejection uses one of at most eight free entries, so nine examinations
are all there can be. -/
def examineAdmission (b : Bay) (s : State) : State := admitPrograms (outcomePlaces + 1) b s

/-! ### The end of a step (R59, R60) -/

/-- steam_dg of an outcome: delivered steam in decigrams, for a STEAM step (R60). -/
def steamDecigrams (x : Context) : Option Nat :=
  if copyIs .steam (contextCopy x) then some (x.delivered / 100) else none

/-- The outcome of a program's current step, but for its sequence number (R60, R70). -/
def stepOutcome (b : Bay) (x : Context) (result : Result) (final : Bool) (s : State) : Outcome :=
  { sequence := 0, result := result, final := final, tag := headTag b s, clamped := x.clamped,
    stepIndex := some x.index, times := some (seconds x.stepTimer, seconds x.heldTime),
    steamDg := steamDecigrams x, ends := endValues b s, reject := none, removed := none }

/-- Removes the ended step's record (R28). -/
def removeStep (b : Bay) (s : State) : State :=
  let s1 := removeHead b 1 s
  setRing b { s1.srs.get b with admitted := (s1.srs.get b).admitted - 1 } s1

/-- The bay becomes IDLE with no program (R59). -/
def becomeIdle (b : Bay) (s : State) : State :=
  driveBay b <| raisePanel b .stateChange <|
    setBsq b { s.bsq.get b with state := .idle, context := none, holds := HoldSet.empty } s

/-- Ends the current step with DONE or SHORT (R59). -/
def endStep (b : Bay) (result : Result) (s : State) : State :=
  match (s.bsq.get b).context with
  | some x =>
    let s0 := withdrawAux b s
    if isFinalStep x then
      examineAdmission b <| becomeIdle b <| removeStep b <|
        postOutcome b .final (stepOutcome b x result true s0) s0
    else
      let s1 := if headNotify b s0 then postOutcome b .notify (stepOutcome b x result false s0) s0 else s0
      enterStep b (x.index + 1) (removeStep b s1)
  | none => s

/-! ### Parking (R68 to R71) -/

/-- A bay that can be sent to PARKING: WAITING, RUNNING or HELD (R68). -/
def inProgress (q : Bsq) : Bool :=
  decide (q.state = .waiting) || decide (q.state = .running) || decide (q.state = .held)

/-- The hold-reason set is emptied (R46, R68). -/
def emptyHolds (b : Bay) (s : State) : State :=
  if (s.bsq.get b).holds = HoldSet.empty then s
  else raisePanel b .holdChange (setBsq b { s.bsq.get b with holds := HoldSet.empty } s)

/-- A bay in WAITING, RUNNING or HELD enters PARKING (R68). -/
def enterParking (b : Bay) (result : ParkResult) (s : State) : State :=
  if inProgress (s.bsq.get b) then
    let s1 := emptyHolds b s
    let q := s1.bsq.get b
    let s2 := setBsq b
      { q with
        state := .parking, parkTimer := 0, parkMinTaken := false
        faultAfterPark := q.faultAfterPark || decide (result = .faulted)
        context := q.context.map fun x => { x with pendingResult := some result } } s1
    let s3 := setOutcomes b { s2.oau.get b with promise := false } s2
    driveBay b (withdrawAux b (raisePanel b .stateChange s3))
  else s

/-- The final outcome and the removal of the remaining records, for a park that has a program (R70). -/
def closeProgram (b : Bay) (s : State) : State :=
  match (s.bsq.get b).context with
  | some x =>
    match x.pendingResult with
    | some r =>
      let s1 := postOutcome b .final (stepOutcome b x (parkResult r) true s) s
      let s2 := removeHead b (s1.srs.get b).admitted s1
      setRing b { s2.srs.get b with admitted := 0 } s2
    | none => s
  | none => s

/-- Parking ends (R70, R71). -/
def endPark (b : Bay) (s : State) : State :=
  let s1 := closeProgram b s
  let q := s1.bsq.get b
  let s2 := driveBay b <| raisePanel b .stateChange <|
    setBsq b
      { q with
        state := if q.faultAfterPark then .faulted else .idle
        context := none, parkTimer := 0, parkMinTaken := false, faultAfterPark := false } s1
  if q.faultAfterPark then s2 else examineAdmission b s2

/-- The bay temperature lets a park end early (R69). -/
def parkCool (b : Bay) (s : State) : Bool :=
  match (s.snu.temps.get b).state, (s.snu.temps.get b).last with
  | .valid, some t => decide (t ≤ parkTemp)
  | _, _ => false

/-- A bay channel reaches FAULT (R67). -/
def baySensorFault (b : Bay) (s : State) : State :=
  match (s.bsq.get b).state with
  | .parking => setBsq b { s.bsq.get b with faultAfterPark := true } s
  | _ => enterParking b .faulted s

end Sys2Proof.Machine
end

