-- ==== Sys2Proof/Machine/Round.lean ====
section
/-! DEFINITION. The allotment round (chapter 4) and what is made of a publication of the grant table: steam yield, sharing
and crediting (chapter 5). -/

namespace Sys2Proof.Machine

/-! ### Class 0 (R77, R79), from the driven values (DEDUCED, unsafe, log 22) -/

def fanCharge (o : BayOutputs) : Nat := fanWattsPerLevel * o.fan.driven
def oscCharge (o : BayOutputs) : Nat := if o.osc.driven = 0 then 0 else oscWatts
def pumpCharge (s : State) : Nat := if s.blc.pumpDrive then pumpWatts else 0

/-- The class-0 total C0. -/
def classZero (s : State) : Nat :=
  (s.alc.bays.map fanCharge).sum + (s.alc.bays.map oscCharge).sum + pumpCharge s

/-- The available power A (R76). -/
def available (s : State) : Nat := s.pae.effective - standingReserve

/-! ### Class 1 (R81 to R83) -/

/-- A bay requests the compressor (R81). -/
def requestsCompressor (q : Bsq) : Bool := copyIs .dry (startedCopy q) && onlyNoPower q.holds

/-- The compressor is requested (R81). -/
def compressorRequested (s : State) : Bool := s.bsq.toList.any requestsCompressor

/-- What a round decides of the compressor. -/
inductive CompressorDecision where
  | shed | stayOn | turnOff | turnOn | stayOff
  deriving DecidableEq, Repr

/-- The decision of a round whose power left after class 0 is `r1` (R82, R83). -/
def decideCompressor (r1 : Nat) (s : State) : CompressorDecision :=
  if s.pae.compressorOn then
    if r1 < compressorWatts then .shed
    else if compressorRequested s then .stayOn
    else if s.pae.minOn < minOnMs then .stayOn
    else .turnOff
  else if compressorRequested s = true ∧ minOffMs ≤ s.pae.minOff ∧ s.snu.condFull.filtered = false ∧
      s.moc.phase = .run ∧ compressorWatts ≤ r1 then .turnOn
  else .stayOff

/-- The compressor's grant under a decision. -/
def compressorGrant : CompressorDecision → Nat
  | .shed => 0 | .stayOn => compressorWatts | .turnOff => 0 | .turnOn => compressorWatts | .stayOff => 0

/-- Carries out a decision (R80, R82, R83, R85, R125). -/
def applyDecision (d : CompressorDecision) (s : State) : State :=
  match d with
  | .shed =>
    let s1 := compressorOff s
    raiseSup .budgetShed { s1 with pae := { s1.pae with shed := true } }
  | .stayOn => s
  | .turnOff => compressorOff s
  | .turnOn =>
    { s with
      pae := { s.pae with compressorOn := true, minOn := 0, shed := false }
      alc := { s.alc with compressorDrive := true } }
  | .stayOff => s

/-! ### Class 2 (R87 to R91) -/

/-- A heater that takes part in a round; `bay` is none for the boiler heater. -/
structure Requestor where
  bay     : Option Bay
  demand  : Nat
  quantum : Nat
  weight  : Nat
  grant   : Nat
  deriving DecidableEq, Repr

/-- The level of a bay that steams: RUNNING a STEAM step (R87). -/
def steamLevel (q : Bsq) : Nat :=
  match runningCopy q with
  | some c => if c.kind = .steam then c.level else 0
  | none => 0

/-- The sum of the levels of the steaming bays. -/
def steamLevels (s : State) : Nat := (s.bsq.map steamLevel).sum

/-- The boiler heater's demand (R88). -/
def boilerDemand (s : State) : Nat :=
  match s.blc.state with
  | .heat => boilerWatts
  | .ready => min boilerWatts (boilerQuantum * (1 + steamLevels s))
  | _ => 0

/-- The clamped level of a bay's current step (R87). -/
def currentLevel (q : Bsq) : Nat := match currentCopy q with | some c => c.level | none => 0

/-- The heaters in the order of ties: the boiler heater, then the auxiliary heaters in ascending bay index (R91). -/
def allHeaters (s : State) : List Requestor :=
  ⟨none, boilerDemand s, boilerQuantum, 4 + steamLevels s, 0⟩ ::
    Bay.all.map fun b => ⟨some b, (s.alc.bays.get b).demand, auxQuantum, currentLevel (s.bsq.get b), 0⟩

/-- The requestors of a round: the heaters with a demand above 0 (R87). -/
def requestors (s : State) : List Requestor := (allHeaters s).filter fun r => decide (0 < r.demand)

def sumDemands (rs : List Requestor) : Nat := (rs.map Requestor.demand).sum
def sumGrants (rs : List Requestor) : Nat := (rs.map Requestor.grant).sum
def sumWeights (rs : List Requestor) : Nat := (rs.map Requestor.weight).sum

/-- A requestor's first-pass grant (R90). -/
def firstGrant (r2 weights : Nat) (r : Requestor) : Requestor :=
  { r with grant := min r.demand (r.quantum * (r2 * r.weight / weights / r.quantum)) }

/-- Puts a requestor before the first of at most its weight (R91). -/
def insertRequestor (r : Requestor) : List Requestor → List Requestor
  | [] => [r]
  | x :: xs => if x.weight ≤ r.weight then r :: x :: xs else x :: insertRequestor r xs

/-- Descending weight; among equal weights the order they came in (R91). -/
def orderRequestors : List Requestor → List Requestor
  | [] => []
  | r :: rs => insertRequestor r (orderRequestors rs)

/-- One cycle of the second pass over a leftover (R91): the requestors after it and the leftover. -/
def shareCycle : Nat → List Requestor → List Requestor × Nat
  | left, [] => ([], left)
  | left, r :: rs =>
    if r.grant < r.demand ∧ r.quantum ≤ left then
      let (rs', left') := shareCycle (left - r.quantum) rs
      ({ r with grant := r.grant + r.quantum } :: rs', left')
    else
      let (rs', left') := shareCycle left rs
      (r :: rs', left')

/-- The second pass: cycles until one raises no grant (R91). -/
def shareCycles : Nat → Nat → List Requestor → List Requestor
  | 0, _, rs => rs
  | fuel + 1, left, rs =>
    let (rs', left') := shareCycle left rs
    if left' = left then rs' else shareCycles fuel left' rs'

/-- The heater shares of a round (R90, R91). Every cycle that raises a grant uses at least one watt of the leftover. -/
def shareHeaters (r2 : Nat) (rs : List Requestor) : List Requestor :=
  if sumDemands rs ≤ r2 then rs.map fun r => { r with grant := r.demand }
  else
    let first := orderRequestors (rs.map (firstGrant r2 (sumWeights rs)))
    let left := r2 - sumGrants first
    shareCycles (left + 1) left first

/-- The grant a heater was given. -/
def grantOf (bay : Option Bay) : List Requestor → Nat
  | [] => 0
  | r :: rs => if r.bay = bay then r.grant else grantOf bay rs

/-! ### The round (R72, R92) -/

/-- The grant table of a round (R92). -/
def roundTable (d : CompressorDecision) (s : State) : GrantTable :=
  let c0 := classZero s
  let r1 := available s - c0
  let r2 := r1 - compressorGrant d
  let shares := shareHeaters r2 (requestors s)
  let boiler := grantOf none shares
  let aux := PerBay.ofFn fun b => grantOf (some b) shares
  { boiler := boiler, compressor := compressorGrant d, aux := aux
    fan := s.alc.bays.map fanCharge, osc := s.alc.bays.map oscCharge, pump := pumpCharge s
    class0 := c0, class1 := compressorGrant d, class2 := boiler + aux.sum
    unallotted := available s - (c0 + compressorGrant d + (boiler + aux.sum)) }

/-- The rounds run in RUN and STANDBY (R72). -/
def roundsRun (s : State) : Bool := decide (s.moc.phase = .run) || decide (s.moc.phase = .standby)

/-- One allotment round with its publication (R72, R92). -/
def allotmentRound (s : State) : State :=
  let d := decideCompressor (available s - classZero s) s
  let table := roundTable d s
  let s1 := applyDecision d s
  { s1 with
    pae := { s1.pae with roundTimer := 0, grants := table }
    untaken := { blc := true, alc := true, bsq := PerBay.fill true } }

/-! ### Steam (R110 to R114) -/

/-- A bay steams: RUNNING a STEAM step (R110). -/
def steaming (s : State) (b : Bay) : Bool := copyIs .steam (runningCopy (s.bsq.get b))

/-- The quantity N of a publication that finds the boiler READY and a bay steaming (R110). -/
def steamEnergy (carry grant : Nat) : Nat := carry + (grant - keepWarmWatts) * roundMs

/-- Each steaming bay's part of the yield, rounded down (R112). -/
def steamShares (y : Nat) (s : State) : PerBay Nat :=
  PerBay.ofFn fun b => y * steamLevel (s.bsq.get b) / steamLevels s

/-- The bays from the steam pointer on, wrapping (R113). -/
def baysFrom (b : Bay) : List Bay := [b, b.next, b.next.next, b.next.next.next]

/-- The first `left` steaming bays of a list, each given one leftover milligram (R113). -/
def extraBays (s : State) (left : Nat) (bays : List Bay) : List Bay := (bays.filter (steaming s)).take left

/-- What a bay's step still lacks, in mg (R114). -/
def steamLacking (q : Bsq) : Nat :=
  match q.context, runningCopy q with
  | some x, some c => (match c.target with | some g => g * 1000 | none => 0) - x.delivered
  | _, _ => 0

/-- The credits of a publication that yields `y` (R112 to R114). -/
def steamCredits (y : Nat) (s : State) : PerBay Nat :=
  let shares := steamShares y s
  let extra := extraBays s (y - shares.sum) (baysFrom s.blc.pointer)
  PerBay.ofFn fun b =>
    if steaming s b then
      min (shares.get b + (if extra.contains b then 1 else 0)) (steamLacking (s.bsq.get b))
    else 0

/-- Credits a bay's step; a credit that reaches the target ends the step with DONE (R56, R114). -/
def creditBay (credits : PerBay Nat) (b : Bay) (s : State) : State :=
  let q := s.bsq.get b
  match q.context, credits.get b with
  | some x, n + 1 =>
    let s1 := setContext b (some { x with delivered := x.delivered + (n + 1) }) s
    if steamLacking q = n + 1 then endStep b .done s1 else s1
  | _, _ => s

/-- The BLC takes a publication: it applies the boiler heater grant, and yields, shares and credits steam when the boiler
is READY and a bay steams (R92, R110, R111; the heater drive DEDUCED, unsafe, log 14). -/
def takeSteam (s : State) : State :=
  let s0 := { s with
    untaken := { s.untaken with blc := false }
    blc := { s.blc with heaterDrive := s.pae.grants.boiler } }
  if s.blc.state = .ready ∧ Bay.all.any (steaming s) = true then
    let n := steamEnergy s.blc.carry s.pae.grants.boiler
    let y := n / steamHeat
    let credits := steamCredits y s
    forBays (creditBay credits)
      { s0 with blc := { s0.blc with
        carry := n % steamHeat
        lastYield := y
        credits := credits
        produced := s.blc.produced + BitVec.ofNat 32 y
        pointer := if y = 0 then s.blc.pointer else s.blc.pointer.next } }
  else { s0 with blc := { s0.blc with lastYield := 0, credits := PerBay.fill 0 } }

/-- An output back in AUTO is driven at its automatic value again (R129). -/
def endAwait {α : Type} (auto : α) (o : Serviced α) : Serviced α :=
  if o.awaiting then driveServiced auto o else o

/-- The ALC takes a publication for a bay (R123, R129). -/
def takeHeater (b : Bay) (s : State) : State :=
  let o := s.alc.bays.get b
  let q := s.bsq.get b
  setOutputs b
    { o with
      fan := endAwait (autoFan q) o.fan
      damper := endAwait (autoDamper q) o.damper
      osc := endAwait (autoOsc q) o.osc
      drive := if s.fitted.get b then s.pae.grants.aux.get b else o.drive } s

/-- The ALC takes a publication (R123). -/
def takeHeaters (s : State) : State :=
  forBays takeHeater { s with untaken := { s.untaken with alc := false } }

/-- A BSQ takes a publication (R50). -/
def takePower (b : Bay) (s : State) : State :=
  reholdPower b { s with untaken := { s.untaken with bsq := s.untaken.bsq.set b false } }

end Sys2Proof.Machine
end

