-- ==== Sys2Proof/Machine/Snapshot.lean ====
section
/-! DEFINITION. The status snapshots, byte by byte (R155, R156, sections 12.3 and 12.4). -/

namespace Sys2Proof.Machine

/-- The context whose step values apply: WAITING, RUNNING or HELD, or PARKING with a program admitted (R191). -/
def appliedContext (q : Bsq) : Option Context :=
  match q.state with
  | .waiting => q.context
  | .running => q.context
  | .held => q.context
  | .parking => q.context
  | _ => none

/-- The value of a channel, while VALID or STALE (R140). -/
def channelValue (c : Channel) : Option Nat :=
  match c.state with
  | .valid => c.last
  | .stale => c.last
  | _ => none

/-- State, value and raw code of a channel (section 12.3). -/
def channelBytes (c : Channel) : List Byte :=
  [channelStateCode c.state, byteOr (channelValue c)] ++ bytes2Or (c.rawCode.map BitVec.toNat)

/-- The kind of the current step (section 12.4). -/
def stepKindByte (x : Option Context) : Byte :=
  match x.bind contextCopy with | some c => kindCode c.kind | none => 0xFF#8

/-- The pending result of a parking program (section 12.4). -/
def pendingResultByte (x : Option Context) : Byte :=
  match x.bind Context.pendingResult with | some r => resultCode (parkResult r) | none => 0xFF#8

/-- STATUS_BAY part 0, after its opening (DEDUCED, unsafe: which values can be absent, log 12). -/
def bayPart0 (b : Bay) (s : State) : List Byte :=
  let q := s.bsq.get b
  let x := appliedContext q
  let r := s.srs.get b
  let o := s.oau.get b
  [bayStateCode q.state,
    flagByte [q.context.isSome, (match q.context with | some c => c.paused | none => false),
      (s.panels.get b).present],
    q.admission, byteOr (x.map Context.stepCount), byteOr (x.map Context.index), stepKindByte x, holdByte q.holds] ++
  bytes2Or (x.map fun c => seconds c.stepTimer) ++ bytes2Or (x.map fun c => seconds c.heldTime) ++
  bytes2Or (x.map fun c => seconds c.stallTimer) ++ bytes3Or (x.map Context.delivered) ++
  [if q.state = .parking then byteOf (seconds q.parkTimer) else 0xFF#8,
    if q.state = .parking then pendingResultByte x else 0xFF#8,
    r.p, r.c, byteOf r.admitted, byteOf (queuedPrograms r), byteOf r.openLength,
    o.q, o.f, byteOf o.records.length, flagByte [o.reservation, o.promise], byteOf (freeEntries o)]

/-- STATUS_BAY part 1, after its opening. The steam valve's byte is 1 for open and 0 for closed, a code that section 12.4 does not
give (DESIGN CHOICE, unsafe, log 32). -/
def bayPart1 (b : Bay) (s : State) : List Byte :=
  let o := s.alc.bays.get b
  let f := s.snu.fronts.get b
  [byteOf o.fan.driven, damperCode o.damper.driven, byteOf o.osc.driven,
    flagByte [decide (o.fan.mode = .service), decide (o.damper.mode = .service), decide (o.osc.mode = .service)],
    byteOf o.fan.service, damperCode o.damper.service, byteOf o.osc.service] ++
  bytes2 o.demand ++ bytes2 o.drive ++
  [if s.blc.valves.get b then 1#8 else 0#8, flagByte [f.raw, f.filtered, f.confirmed]] ++
  channelBytes (s.snu.temps.get b) ++ channelBytes (s.snu.hums.get b)

/-- A STATUS_BAY payload: bay index, part number, the part (R155). -/
def statusBayBytes (b : Bay) (part : Byte) (s : State) : List Byte :=
  bayByte b :: part :: (if part = 0#8 then bayPart0 b s else bayPart1 b s)

/-- The five cabinet switches as a flag byte (section 12.3). -/
def switchByte (f : SwitchFilter → Bool) (s : State) : Byte :=
  flagByte [f s.snu.boilerWaterOk, f s.snu.boilerCutout, f s.snu.freshLow, f s.snu.freshEmpty, f s.snu.condFull]

/-- The fitted bays as a flag byte. -/
def fittedByte (s : State) : Byte := flagByte s.fitted.toList

/-- The commit flags of STATUS_PLANT part 0 (section 12.3). -/
def commitFlags (p : Pts) : List Bool := [p.reErased, p.rewritten, p.marker]

/-- The phase timer, absent in IDLE (R166). -/
def phaseTimerBytes (p : Pts) : List Byte := bytes2Or (if p.phase = .idle then none else some p.phaseTimer)

def plantPart0 (s : State) : List Byte :=
  [modeCode s.moc.phase, resetCauseCode s.moc.resetCause, flagByte [s.pts.storeInvalid, s.pts.dirty], fittedByte s,
    flagByte (s.supervisor.present :: s.panels.toList.map MasterState.present),
    flagByte [decide (s.moc.pumpMode = .service), s.moc.pumpValue],
    switchByte SwitchFilter.raw s, switchByte SwitchFilter.filtered s, switchByte SwitchFilter.confirmed s,
    commitPhaseCode s.pts.phase] ++ phaseTimerBytes s.pts ++
  [flagByte (commitFlags s.pts), commitResultCode s.pts.lastResult]

def plantPart1 (s : State) : List Byte :=
  bytes2 s.pae.budget ++ bytes2 s.pae.effective ++
  [flagByte [s.pae.compressorOn, s.alc.compressorDrive, s.pae.shed], byteOf (seconds s.pae.minOn),
    byteOf (seconds s.pae.minOff)]

def plantPart2 (s : State) : List Byte :=
  let g := s.pae.grants
  bytes2 g.boiler ++ bytes2 g.compressor ++ g.aux.toList.flatMap bytes2 ++ g.fan.toList.map byteOf ++
  g.osc.toList.map byteOf ++ [byteOf g.pump, byteOf g.class0] ++ bytes2 g.class1 ++ bytes2 g.class2 ++
  bytes2 g.unallotted

def plantPart3 (s : State) : List Byte :=
  [boilerStateCode s.blc.state, lockCauseCode s.blc.cause, byteOf (seconds s.blc.fillTimer)] ++
  bytes2 (seconds s.blc.idleTimer) ++ bytes2 s.blc.carry ++ [bayByte s.blc.pointer, byteOf s.blc.lastYield] ++
  s.blc.credits.toList.map byteOf ++ bytes4 s.blc.produced.toNat ++ channelBytes s.snu.boilerTemp

/-- A STATUS_PLANT payload: part number, the part (R156). -/
def statusPlantBytes (part : Byte) (s : State) : List Byte :=
  part :: (match part.toNat with
    | 0 => plantPart0 s
    | 1 => plantPart1 s
    | 2 => plantPart2 s
    | _ => plantPart3 s)

/-- What the profile requests carry of the commit state (section 12.5). -/
def commitBytes (p : Pts) : List Byte :=
  [flagByte (commitFlags p ++ [p.dirty]), commitPhaseCode p.phase] ++ phaseTimerBytes p ++
  [commitResultCode p.lastResult]

/-- The payload of PROFILE_READ and PROFILE_WRITE (section 12.5). -/
def profilePayload (slot : Byte) (s : State) : List Byte :=
  slot :: (profileBytes (s.pts.table[slot.toNat]?).join ++ commitBytes s.pts)

/-- The payload of OUTCOME_READ (R146): bay, Q, F, the number of records and the records that fit whole in the 42 bytes
left. -/
def outcomePayload (b : Bay) (s : State) : List Byte :=
  let o := s.oau.get b
  let rs := fitRecords 4 42 o.records
  [bayByte b, o.q, o.f, byteOf rs.length] ++ rs.flatMap outcomeBytes

end Sys2Proof.Machine
end

