-- ==== Sys2Proof/Machine/Requests.lean ====
section
/-! DEFINITION. What each owner does with a request handed to it, and the acceptance of a request by the PLI (R175). -/

namespace Sys2Proof.Machine

/-- What an owner answers: ACK or NAK, and the payload (R190). -/
structure Reply where
  status  : Status
  payload : List Byte
  deriving DecidableEq, Repr

def ackWith (payload : List Byte) : Reply := ⟨.ack, payload⟩
def nakWith (r : NakReason) (payload : List Byte) : Reply := ⟨.nak r, payload⟩

/-! ### PLI and OAU: PING, snapshots and events -/

/-- R177. -/
def ownerPing (s : State) : State × Reply :=
  (s, ackWith [modeCode s.moc.phase, resetCauseCode s.moc.resetCause, fittedByte s])

/-- R156. -/
def ownerStatusPlant (part : Byte) (s : State) : State × Reply := (s, ackWith (statusPlantBytes part s))

/-- R155. -/
def ownerStatusBay (b : Bay) (part : Byte) (s : State) : State × Reply := (s, ackWith (statusBayBytes b part s))

/-- R151. -/
def ownerEventsRead (m : Master) (s : State) : State × Reply :=
  (s, ackWith (halfBytes (masterState m s).pending ++ halfBytes (masterState m s).mask))

/-- R152. -/
def ownerEventsClear (m : Master) (events : Half) (s : State) : State × Reply :=
  let s1 := setMaster m (clearBits (events &&& latchedSet m) (masterState m s)) s
  (s1, ackWith (halfBytes (masterState m s1).pending))

/-- R153. -/
def ownerEventsMask (m : Master) (mask : Half) (s : State) : State × Reply :=
  let s1 := setMaster m (setMask (mask &&& eventSet m) (masterState m s)) s
  (s1, ackWith (halfBytes (masterState m s1).mask ++ halfBytes (masterState m s1).pending))

/-! ### SRS: STEP_APPEND and QUEUE_CANCEL -/

/-- The open-program length after a batch, or none where a program would have more than eight steps (R26). -/
def openAfter : Nat → List StepRecord → Option Nat
  | n, [] => some n
  | n, r :: rest => if programSteps < n + 1 then none else openAfter (if isEnd r then 0 else n + 1) rest

/-- R24 to R27. -/
def ownerStepAppend (b : Bay) (expected : Byte) (records : List StepRecord) (s : State) : State × Reply :=
  let r := s.srs.get b
  if expected ≠ r.p then (s, nakWith .position [r.p])
  else if records.any fun x => decide (15 < x.profile.toNat) then (s, nakWith .valueBad [])
  else if ringPlaces < r.records.length + records.length then (s, nakWith .ringFull [])
  else match openAfter r.openLength records with
    | none => (s, nakWith .tooLong [])
    | some n =>
      let p := r.p + BitVec.ofNat 8 records.length
      let s1 := setRing b { r with records := r.records ++ records, p := p, openLength := n } s
      (if records.any isEnd then examineAdmission b s1 else s1, ackWith [p])

/-- The CANCELLED outcome for the records behind the admitted part (R31). -/
def cancelOutcome (b : Bay) (behind : List StepRecord) (s : State) : Outcome :=
  { sequence := 0, result := .cancelled, final := true
    tag := match behind.head? with | some r => r.tag | none => 0
    clamped := false, stepIndex := none, times := none, steamDg := none, ends := endValues b s, reject := none
    removed := some ((behind.filter isEnd).length, behind.length) }

/-- R30. -/
def ownerQueueCancel (b : Bay) (s : State) : State × Reply :=
  let r := s.srs.get b
  let behind := r.records.drop r.admitted
  if behind.isEmpty then (s, ackWith [r.p])
  else if freeEntries (s.oau.get b) = 0 then (s, nakWith .outcomeFull [])
  else
    let p := r.c + BitVec.ofNat 8 r.admitted
    let s1 := setRing b { r with records := r.records.take r.admitted, p := p, openLength := 0 } s
    (postOutcome b .other (cancelOutcome b behind s) s1, ackWith [p])

/-! ### OAU: OUTCOME_READ and OUTCOME_FREE -/

/-- R146. -/
def ownerOutcomeRead (b : Bay) (s : State) : State × Reply := (s, ackWith (outcomePayload b s))

/-- Effects that wait for an outcome entry (R147): a WAITING step starts, an IDLE bay has admission examined. -/
def afterFree (b : Bay) (s : State) : State :=
  match (s.bsq.get b).state with
  | .waiting => if 1 ≤ freeEntries (s.oau.get b) then startStep b s else s
  | .idle => examineAdmission b s
  | _ => s

/-- R147. -/
def ownerOutcomeFree (b : Bay) (freed : Byte) (s : State) : State × Reply :=
  let o := s.oau.get b
  let k := (freed - o.f).toNat
  if k = 0 then (s, ackWith [o.q, o.f])
  else if o.records.length < k then (s, nakWith .valueBad [o.q, o.f])
  else
    let s1 := setOutcomes b { o with records := o.records.drop k, f := freed } s
    let s2 := if (o.records.drop k).isEmpty then dropOutcomeReady b s1 else s1
    let s3 := afterFree b s2
    (s3, ackWith [(s3.oau.get b).q, (s3.oau.get b).f])

/-! ### BSQ: requests on the running program -/

/-- Bay state and admission number, which the ACK and the NAK of the three requests carry (section 3.7). -/
def bayAnswer (b : Bay) (s : State) : List Byte := [bayStateCode (s.bsq.get b).state, (s.bsq.get b).admission]

/-- How a request on the running program is met (R62, R64). -/
inductive ProgramMatch where
  /-- WAITING, RUNNING or HELD with the number that matches. -/
  | acts
  /-- PARKING with an admitted program and the number that matches. -/
  | parking
  | refused
  deriving DecidableEq, Repr

def programMatch (q : Bsq) (number : Byte) : ProgramMatch :=
  if q.admission = number then
    if inProgress q then .acts
    else if q.state = .parking ∧ q.context.isSome = true then .parking
    else .refused
  else .refused

/-- R62. -/
def ownerProgramAbort (b : Bay) (number : Byte) (s : State) : State × Reply :=
  match programMatch (s.bsq.get b) number with
  | .acts =>
    let s1 := enterParking b .aborted s
    (s1, ackWith (bayAnswer b s1))
  | .parking => (s, ackWith (bayAnswer b s))
  | .refused => (s, nakWith .badState (bayAnswer b s))

/-- Sets or clears the paused flag; in RUNNING and HELD the hold reason follows at once (R64). -/
def setPaused (b : Bay) (paused : Bool) (s : State) : State :=
  match (s.bsq.get b).context with
  | some x =>
    let s1 := setContext b (some { x with paused := paused }) s
    match (s.bsq.get b).state with
    | .waiting => s1
    | _ => changeHolds b { (s.bsq.get b).holds with paused := paused } s1
  | none => s

/-- R64, for BAY_PAUSE. -/
def ownerBayPause (b : Bay) (number : Byte) (s : State) : State × Reply :=
  match programMatch (s.bsq.get b) number with
  | .acts =>
    let s1 := setPaused b true s
    (s1, ackWith (bayAnswer b s1))
  | .parking => (s, ackWith (bayAnswer b s))
  | .refused => (s, nakWith .badState (bayAnswer b s))

/-- R64, for BAY_RESUME. -/
def ownerBayResume (b : Bay) (number : Byte) (s : State) : State × Reply :=
  match programMatch (s.bsq.get b) number with
  | .acts =>
    let s1 := setPaused b false s
    (s1, ackWith (bayAnswer b s1))
  | .parking => (s, ackWith (bayAnswer b s))
  | .refused => (s, nakWith .badState (bayAnswer b s))

/-- R65. -/
def ownerBayClear (b : Bay) (s : State) : State × Reply :=
  if (s.bsq.get b).state = .faulted ∧ bothValid b s = true then
    let s1 := examineAdmission b <| driveBay b <| raisePanel b .stateChange <|
      setBsq b { s.bsq.get b with state := .idle } s
    (s1, ackWith [bayStateCode (s1.bsq.get b).state])
  else (s, nakWith .badState [bayStateCode (s.bsq.get b).state])

/-! ### PAE, BLC -/

/-- The budget a request applies: into 800 to 3600 W, then down to a multiple of 10 W (R74). -/
def clampBudget (v : Nat) : Nat := min 3600 (max 800 v) / 10 * 10

/-- R74. -/
def ownerBudgetSet (value : Half) (s : State) : State × Reply :=
  let s1 := formEffective { s with pae := { s.pae with budget := clampBudget value.toNat } }
  (s1, ackWith (bytes2 s1.pae.budget ++ bytes2 s1.pae.effective))

/-- R107. -/
def ownerBoilerClear (s : State) : State × Reply :=
  if s.blc.state = .locked ∧ s.snu.boilerCutout.filtered = false ∧
      boilerTempIs (fun t => decide (t < clearTemp)) s = true then
    let s1 := examineStart (toBoiler .cold { s with blc := { s.blc with cause := .none } })
    (s1, ackWith [boilerStateCode s1.blc.state])
  else (s, nakWith .badState [boilerStateCode s.blc.state, lockCauseCode s.blc.cause])

/-! ### PTS -/

/-- R159. -/
def ownerProfileRead (slot : Byte) (s : State) : State × Reply := (s, ackWith (profilePayload slot s))

/-- Clamps a value into a range (R160). -/
def clampInto (lo hi v : Nat) : Nat := min hi (max lo v)

/-- The six fields as applied (R157, R160). -/
def clampProfile (v : ProfileValues) : Profile where
  maxAirTemp := clampInto 30 70 v.maxAirTemp.toNat
  maxDose := clampInto 0 400 v.maxDose.toNat
  maxFan := clampInto 1 8 v.maxFan.toNat
  maxOsc := clampInto 0 120 v.maxOsc.toNat
  dryFloor := clampInto 20 80 v.dryFloor.toNat
  maxStep := clampInto 60 3600 v.maxStep.toNat

/-- Puts a slot's new contents and sets the dirty flag (R160, R161). -/
def writeSlot (slot : Byte) (p : Option Profile) (s : State) : State :=
  { s with pts := { s.pts with table := s.pts.table.setIfInBounds slot.toNat p, dirty := true } }

/-- R160; a state code outside its table is refused (R191). -/
def ownerProfileWrite (slot state : Byte) (v : ProfileValues) (s : State) : State × Reply :=
  if state = 0x00#8 then
    let s1 := writeSlot slot none s
    (s1, ackWith (profilePayload slot s1))
  else if state = 0x01#8 then
    let s1 := writeSlot slot (some (clampProfile v)) s
    (s1, ackWith (profilePayload slot s1))
  else (s, nakWith .valueBad [])

/-- R162. -/
def ownerProfileCommit (s : State) : State × Reply :=
  if s.pts.phase = .idle then
    let s1 := { s with pts := { s.pts with
      snapshot := some s.pts.table, dirty := false, reErased := false, rewritten := false, marker := false,
      phase := .erasing, phaseTimer := 0 } }
    (s1, ackWith (commitBytes s1.pts))
  else (s, nakWith .storeBusy (commitBytes s.pts))

/-! ### MOC: modes, warm restart, service -/

/-- The plant mode changes from RUN to STANDBY (R184). -/
def enterStandby (s : State) : State :=
  forceCompressorOff <| coolBoiler <| forBays reholdStandby { s with moc := { s.moc with phase := .standby } }

/-- The plant mode changes from STANDBY to RUN (R184): the holds, then the boiler, then admission for the IDLE bays in ascending
index, an order the manual does not give (R34; DESIGN CHOICE, unsafe, log 28). -/
def enterRun (s : State) : State :=
  forBays examineAdmission <| examineSteam <| forBays reholdStandby { s with moc := { s.moc with phase := .run } }

/-- The conditions of SLEEP (R185). -/
def maySleep (s : State) : Bool :=
  (Bay.all.all fun b =>
    (decide ((s.bsq.get b).state = .idle) || decide ((s.bsq.get b).state = .absent) ||
      decide ((s.bsq.get b).state = .faulted)) &&
    decide (queuedPrograms (s.srs.get b) = 0)) &&
  decide (s.pts.phase = .idle)

/-- An output returned to AUTO at entry to SLEEP, driven inactive (R185). -/
def sleepServiced {α : Type} (inactive : α) (o : Serviced α) : Serviced α :=
  { o with driven := inactive, mode := .auto, awaiting := false }

def sleepOutputs (o : BayOutputs) : BayOutputs :=
  { fan := sleepServiced 0 o.fan, damper := sleepServiced .closed o.damper, osc := sleepServiced 0 o.osc
    demand := 0, drive := 0 }

/-- Entry to SLEEP (R185, R73, R96, R117; DEDUCED, unsafe, log 24). -/
def enterSleep (s : State) : State :=
  let s0 := if s.pae.compressorOn then compressorOff s else s
  { s0 with
    moc := { s0.moc with phase := .sleep, pumpMode := .auto }
    pae := { s0.pae with grants := GrantTable.zero }
    untaken := { blc := false, alc := false, bsq := PerBay.fill false }
    blc := { s0.blc with
      fillTimer := 0, idleTimer := 0, carry := 0, lastYield := 0, credits := PerBay.fill 0
      valves := PerBay.fill false, pumpDrive := false, heaterDrive := 0 }
    alc := { bays := s0.alc.bays.map sleepOutputs, compressorDrive := false }
    snu := { s0.snu with switchDue := [], analogDue := [] } }

/-- PLANT_MODE for RUN (R183). -/
def ownerPlantModeRun (s : State) : State × Reply :=
  let s1 := if s.moc.phase = .standby then enterRun s else s
  (s1, ackWith [modeCode s1.moc.phase])

/-- PLANT_MODE for STANDBY (R183). -/
def ownerPlantModeStandby (s : State) : State × Reply :=
  let s1 := if s.moc.phase = .run then enterStandby s else s
  (s1, ackWith [modeCode s1.moc.phase])

/-- PLANT_MODE for SLEEP (R183, R185). -/
def ownerPlantModeSleep (s : State) : State × Reply :=
  if s.moc.phase = .standby ∧ maySleep s = true then
    let s1 := enterSleep s
    (s1, ackWith [modeCode s1.moc.phase])
  else (s, nakWith .badState [modeCode s.moc.phase])

/-- A mode code outside its table is refused (R183, R191). -/
def ownerPlantMode (mode : Byte) (s : State) : State × Reply :=
  if mode = 0x00#8 then ownerPlantModeRun s
  else if mode = 0x01#8 then ownerPlantModeStandby s
  else if mode = 0x02#8 then ownerPlantModeSleep s
  else (s, nakWith .valueBad [modeCode s.moc.phase])

/-- A serviced output returns to AUTO: at its inactive level until the next publication (R129, R189). -/
def autoServiced {α : Type} (inactive : α) (o : Serviced α) : Serviced α :=
  if o.mode = .service then { o with driven := inactive, mode := .auto, awaiting := true } else o

def autoOutputs (o : BayOutputs) : BayOutputs :=
  { o with fan := autoServiced 0 o.fan, damper := autoServiced .closed o.damper, osc := autoServiced 0 o.osc }

/-- Everything of a warm restart that empties rings, discards contexts and returns outputs to AUTO for one bay (R23, R71,
R117, R143). -/
def restartBay (b : Bay) (s : State) : State :=
  let q := s.bsq.get b
  let s1 := setRing b { records := [], p := 0, c := 0, admitted := 0, openLength := 0 } s
  let s2 := setOutcomes b { records := [], q := 0, f := 0, reservation := false, promise := false } s1
  let s3 := setOutputs b (autoOutputs (s2.alc.bays.get b)) s2
  if inProgress q then
    driveBay b <| withdrawAux b <|
      setBsq b { q with state := .parking, context := none, holds := HoldSet.empty, parkTimer := 0,
                        parkMinTaken := false } s3
  else
    formDemand b <| withdrawAux b <| setBsq b { q with context := none, holds := HoldSet.empty } s3

/-- The PAE's part of a warm restart (R73, R80, R84, R85). -/
def restartPae (s : State) : State :=
  let s1 := withdrawCompressor (withdrawBoiler (compressorOff s))
  formEffective { s1 with pae := { s1.pae with budget := resetBudget, minOn := 0, shed := false } }

/-- The BLC's part of a warm restart (R96, R108). -/
def restartBlc (s : State) : State :=
  let s1 := coolBoiler { s with moc := { s.moc with pumpMode := .auto } }
  { s1 with blc := { s1.blc with
    fillTimer := 0, idleTimer := 0, carry := 0, lastYield := 0, credits := PerBay.fill 0, pumpDrive := false } }

/-- A warm restart (R187). -/
def restartPlant (s : State) : State :=
  let s1 := restartBlc (restartPae (forBays restartBay s))
  restartEvents { s1 with
    moc := { s1.moc with resetCause := .warm }
    pli := { s1.pli with rx := .hunt } }

/-- R187. -/
def ownerWarmRestart (s : State) : State × Reply :=
  let s1 := restartPlant s
  (s1, ackWith [resetCauseCode s1.moc.resetCause, modeCode s1.moc.phase])

/-- The damper position of a service value (R188). -/
def damperOf (v : Nat) : Damper := if v = 0 then .closed else .opened

/-- Puts an output in SERVICE at a value and drives it there (R129, R188). -/
def putService {α : Type} (v : α) : Serviced α :=
  { driven := v, mode := .service, service := v, awaiting := false }

/-- A bay whose outputs may be serviced (R188). -/
def mayService (b : Bay) (s : State) : Bool :=
  decide ((s.bsq.get b).state = .idle) || decide ((s.bsq.get b).state = .faulted)

/-- The pump may be serviced (R188). -/
def mayServicePump (s : State) : Bool :=
  decide (s.blc.state = .cold) || decide (s.blc.state = .starved) || decide (s.blc.state = .locked)

/-- An output's mode and service value as the ACK carries them (section 12.5, log 15). The fill pump's value is 1 for on and 0 for
off, a code that the manual does not give (R188, R193; DESIGN CHOICE, unsafe, log 33). -/
def outputAnswer (o : OutputId) (s : State) : List Byte :=
  match o with
  | .fan b => [outputModeCode (s.alc.bays.get b).fan.mode, byteOf (s.alc.bays.get b).fan.service]
  | .damper b => [outputModeCode (s.alc.bays.get b).damper.mode, damperCode (s.alc.bays.get b).damper.service]
  | .osc b => [outputModeCode (s.alc.bays.get b).osc.mode, byteOf (s.alc.bays.get b).osc.service]
  | .pump => [outputModeCode s.moc.pumpMode, if s.moc.pumpValue then 1#8 else 0#8]

/-- OUTPUT_SERVICE with mode SERVICE (R188). -/
def ownerService (index value : Byte) (o : OutputId) (s : State) : State × Reply :=
  match o with
  | .fan b =>
    if mayService b s then
      let x := s.alc.bays.get b
      let s1 := setOutputs b { x with fan := putService (min 8 value.toNat) } s
      (s1, ackWith (index :: outputAnswer o s1))
    else (s, nakWith .badState [])
  | .damper b =>
    if mayService b s then
      let x := s.alc.bays.get b
      let s1 := setOutputs b { x with damper := putService (damperOf value.toNat) } s
      (s1, ackWith (index :: outputAnswer o s1))
    else (s, nakWith .badState [])
  | .osc b =>
    if mayService b s then
      let x := s.alc.bays.get b
      let s1 := setOutputs b { x with osc := putService (min 120 value.toNat) } s
      (s1, ackWith (index :: outputAnswer o s1))
    else (s, nakWith .badState [])
  | .pump =>
    if mayServicePump s then
      let on := decide (value ≠ 0#8)
      let s1 := { s with
        moc := { s.moc with pumpMode := .service, pumpValue := on }
        blc := { s.blc with pumpDrive := on } }
      (s1, ackWith (index :: outputAnswer o s1))
    else (s, nakWith .badState [])

/-- The fill pump returns to AUTO (R109, R189). -/
def pumpToAuto (s : State) : State :=
  refill <| examineStart
    { s with
      moc := { s.moc with pumpMode := .auto }
      blc := { s.blc with pumpDrive := decide (s.blc.state = .fill) } }

/-- Admission is examined when the last serviced output of a bay returns to AUTO (R34, R189). -/
def afterService (b : Bay) (s : State) : State :=
  if noneServiced (s.alc.bays.get b) then examineAdmission b s else s

/-- OUTPUT_SERVICE with mode AUTO (R189). -/
def serviceToAuto (o : OutputId) (s : State) : State :=
  match o with
  | .fan b =>
    let x := s.alc.bays.get b
    if x.fan.mode = .service then afterService b (setOutputs b { x with fan := autoServiced 0 x.fan } s) else s
  | .damper b =>
    let x := s.alc.bays.get b
    if x.damper.mode = .service then
      afterService b (setOutputs b { x with damper := autoServiced .closed x.damper } s) else s
  | .osc b =>
    let x := s.alc.bays.get b
    if x.osc.mode = .service then afterService b (setOutputs b { x with osc := autoServiced 0 x.osc } s) else s
  | .pump => if s.moc.pumpMode = .service then pumpToAuto s else s

/-- R188, R189; a mode code outside its table is refused (R191). -/
def ownerOutputService (index mode value : Byte) (s : State) : State × Reply :=
  match outputOf index with
  | none => (s, nakWith .valueBad [])
  | some o =>
    if mode = 0x00#8 then
      let s1 := serviceToAuto o s
      (s1, ackWith (index :: outputAnswer o s1))
    else if mode = 0x01#8 then ownerService index value o s
    else (s, nakWith .valueBad [])

/-! ### Handing a request to its owner -/

/-- Hands a request to the owner for the bay it names; the common checks have found that bay (R175). -/
def forBay (bay : Byte) (f : Bay → State → State × Reply) (s : State) : State × Reply :=
  match bayOf bay with
  | some b => f b s
  | none => (s, nakWith .valueBad [])

/-- What the owner of a request does (R175, R176). -/
def perform (m : Master) (r : Request) (s : State) : State × Reply :=
  match r with
  | .ping => ownerPing s
  | .statusPlant part => ownerStatusPlant part s
  | .statusBay bay part => forBay bay (fun b => ownerStatusBay b part) s
  | .eventsRead => ownerEventsRead m s
  | .eventsClear e => ownerEventsClear m e s
  | .eventsMask mask => ownerEventsMask m mask s
  | .stepAppend bay p rs => forBay bay (fun b => ownerStepAppend b p rs) s
  | .queueCancel bay => forBay bay ownerQueueCancel s
  | .outcomeRead bay => forBay bay ownerOutcomeRead s
  | .outcomeFree bay f => forBay bay (fun b => ownerOutcomeFree b f) s
  | .bayPause bay n => forBay bay (fun b => ownerBayPause b n) s
  | .bayResume bay n => forBay bay (fun b => ownerBayResume b n) s
  | .programAbort bay n => forBay bay (fun b => ownerProgramAbort b n) s
  | .budgetSet v => ownerBudgetSet v s
  | .profileRead slot => ownerProfileRead slot s
  | .profileWrite slot st v => ownerProfileWrite slot st v s
  | .profileCommit => ownerProfileCommit s
  | .plantMode mode => ownerPlantMode mode s
  | .warmRestart => ownerWarmRestart s
  | .outputService o mode v => ownerOutputService o mode v s
  | .bayClear bay => forBay bay ownerBayClear s
  | .boilerClear => ownerBoilerClear s

/-! ### Acceptance (R174, R175) -/

/-- The PLI takes frames in RUN and STANDBY (R180). -/
def takesFrames (s : State) : Bool := decide (s.moc.phase = .run) || decide (s.moc.phase = .standby)

/-- What follows a master becoming PRESENT from ABSENT (R174): admission for its bay, or E. -/
def returned (m : Master) (s : State) : State :=
  match m with
  | .supervisor => formEffective s
  | .panel b => examineAdmission b s

/-- A valid frame from a master: PRESENT, its window from 0 (R174). -/
def becomePresent (m : Master) (s : State) : State :=
  let x := masterState m s
  let s1 := setMaster m { x with present := true, window := 0 } s
  if x.present then s1 else returned m s1

/-- The common refusals after the first (R175, checks 2 to 7). `k` is none for an unknown kind, `r` for a payload whose
length the kind does not allow. -/
def commonRefusal (m : Master) (k : Option ReqKind) (r : Option Request) (s : State) : Option NakReason :=
  match k with
  | none => some .kindUnknown
  | some k =>
    if entitled m k then
      match r with
      | none => some .lengthBad
      | some r =>
        if lengthOk r then
          if indexOk r then
            match bayNamed r with
            | none => none
            | some b =>
              if s.fitted.get b then (if ownBay m b then none else some .notPermitted) else some .noBay
          else some .valueBad
        else some .lengthBad
    else some .notPermitted

/-- Forms the response, which waits through its turnaround (R178). -/
def respond (m : Master) (kind : Byte) (noise : Bool) (reply : Reply) (s : State) : State :=
  { s with pli := { s.pli with tx := some ⟨m, kind, reply.status, noise, reply.payload⟩ } }

/-- The receiver is in HUNT after a whole frame (R170). -/
def endFrame (s : State) : State := { s with pli := { s.pli with rx := .hunt } }

/-- A frame from a master that may become PRESENT: presence, the common checks, the owner, the response (R175). -/
def answerFrame (m : Master) (kind : Byte) (k : Option ReqKind) (r : Option Request) (noise : Bool) (s : State) :
    State :=
  match commonRefusal m k r s, r with
  | some reason, _ => respond m kind noise (nakWith reason []) s
  | none, some r => respond m kind noise (perform m r s).2 (perform m r s).1
  | none, none => s

/-- A whole frame has been heard from a master that may become PRESENT: what the request is then taken on (R174, R175). -/
def heard (m : Master) (s : State) : State := becomePresent m (endFrame s)

/-- A valid frame from a known source is taken in one event (R175); check 1 keeps the panel of an unfitted bay ABSENT
(R173). -/
def takeFrame (m : Master) (kind : Byte) (k : Option ReqKind) (r : Option Request) (noise : Bool) (s : State) : State :=
  if takesFrames s then
    if masterFitted m s then answerFrame m kind k r noise (heard m s)
    else respond m kind noise (nakWith .noBay []) (endFrame s)
  else s

/-- A request whose parameters are read: the whole valid frame of it (R175; DESIGN CHOICE, unsafe, log 8). -/
def takeRequest (m : Master) (noise : Bool) (r : Request) (s : State) : State :=
  takeFrame m (reqCode (reqKind r)) (some (reqKind r)) (some r) noise s

/-- A valid frame as assembled: an unknown source is dropped (R173), otherwise its kind and payload are read and it is
taken (R175, R190). A response that still waits is left waiting by a frame from an unknown source (DESIGN CHOICE, unsafe,
log 31), and replaced by a request (log 8). -/
def acceptFrame (source kind : Byte) (payload : List Byte) (noise : Bool) (s : State) : State :=
  match masterOf source with
  | none => if takesFrames s then endFrame s else s
  | some m =>
    takeFrame m kind (reqOfCode kind) ((reqOfCode kind).bind fun k => parseRequest k payload) noise s

end Sys2Proof.Machine
end

