-- ==== Sys2Proof/Machine/Link.lean ====
section
/-! DEFINITION. The plant link's own commands: characters and frames, the idle gap, responses and their echo, presence (chapter
10), and the two frames that no owner answers. -/

namespace Sys2Proof.Machine

/-- LINK_FAULT is raised (R171, R178, R179). -/
def linkFault (s : State) : State := raiseSup .linkFault s

/-! ### Frame assembly (R170, R171) -/

/-- A complete frame as assembled: source, kind, payload, received CRC, and whether a character of it was noisy. -/
structure Assembled where
  source  : Byte
  kind    : Byte
  payload : List Byte
  crc     : Half
  noise   : Bool
  deriving DecidableEq, Repr

/-- What a character does to frame assembly. -/
structure RxMove where
  rx    : Rx
  /-- The frame in progress was discarded with LINK_FAULT. -/
  fault : Bool
  frame : Option Assembled
  deriving DecidableEq, Repr

/-- Moves to a state without event. -/
def quietly (rx : Rx) : RxMove := ⟨rx, false, none⟩

/-- Discards the frame in progress with LINK_FAULT (R171). -/
def discarding (rx : Rx) : RxMove := ⟨rx, true, none⟩

/-- An address character taken as in HUNT: to 0x40 HEADER, otherwise SKIP (R170). -/
def openFrame (c : RxChar) : Rx := if c.byte = ownAddress then .header [] c.noise else .skip

/-- After the length character: PAYLOAD, CHECK, or none for an over-length (R170). -/
def afterLength (source kind length : Byte) (noise : Bool) : Option Rx :=
  if length = 0#8 then some (.check source kind [] none noise)
  else if length.toNat ≤ 48 then some (.payload source kind length.toNat [] noise)
  else none

/-- A data character in HEADER (R170). -/
def headerData (got : List Byte) (noise : Bool) (c : RxChar) : RxMove :=
  match got with
  | [source, kind] =>
    match afterLength source kind c.byte (noise || c.noise) with
    | some rx => quietly rx
    | none => discarding .hunt
  | _ => quietly (.header (got ++ [c.byte]) (noise || c.noise))

/-- A data character in PAYLOAD (R170). -/
def payloadData (source kind : Byte) (length : Nat) (got : List Byte) (noise : Bool) (c : RxChar) : RxMove :=
  let got' := got ++ [c.byte]
  if length ≤ got'.length then quietly (.check source kind got' none (noise || c.noise))
  else quietly (.payload source kind length got' (noise || c.noise))

/-- A data character in CHECK (R170, R172). -/
def checkData (source kind : Byte) (payload : List Byte) (high : Option Byte) (noise : Bool) (c : RxChar) : RxMove :=
  match high with
  | none => quietly (.check source kind payload (some c.byte) (noise || c.noise))
  | some h => ⟨.hunt, false, some ⟨source, kind, payload, halfOf h c.byte, noise || c.noise⟩⟩

/-- A character in a state that takes a frame: a break, a framing error and an address character discard it; a data
character does `data` (R170, R171). -/
def inFrame (c : RxChar) (data : RxMove) : RxMove :=
  if c.isBreak then quietly .hunt
  else if c.framing then discarding .hunt
  else if c.mark then discarding (openFrame c)
  else data

/-- How a received character moves frame assembly (R170). -/
def rxMove (c : RxChar) (rx : Rx) : RxMove :=
  match rx with
  | .hunt => quietly (if c.mark && !c.framing then openFrame c else .hunt)
  | .skip =>
    if c.isBreak then quietly .hunt else quietly (if c.mark && !c.framing then openFrame c else .skip)
  | .header got noise => inFrame c (headerData got noise c)
  | .payload source kind length got noise => inFrame c (payloadData source kind length got noise c)
  | .check source kind payload high noise => inFrame c (checkData source kind payload high noise c)

/-- The CRC of an assembled frame matches (R172); its destination is the part. -/
def crcMatches (f : Assembled) : Bool := decide (frameCrc ownAddress f.source f.kind f.payload = f.crc)

/-- Puts the receiver in a state. -/
def setRx (rx : Rx) (s : State) : State := { s with pli := { s.pli with rx := rx } }

/-- A character given to frame assembly; a complete valid frame is taken in the same event (R170 to R172). -/
def assemble (c : RxChar) (s : State) : State :=
  let v := rxMove c s.pli.rx
  let s1 := setRx v.rx s
  match v.frame with
  | some f => if crcMatches f then acceptFrame f.source f.kind f.payload f.noise s1 else linkFault s1
  | none => if v.fault then linkFault s1 else s1

/-! ### The conditions of the PLI (R180) -/

/-- An address character received without a framing error. -/
def isAddress (c : RxChar) : Bool := c.mark && !c.framing

/-- A character in the turnaround of a waiting response: an address character discards the response, raises LINK_FAULT
and is then taken by `retake`; any other is disregarded (R178). -/
def inTurnaround (c : RxChar) (retake : State → State) (s : State) : State :=
  if isAddress c then
    retake (linkFault { s with pli := { s.pli with tx := none, rx := .hunt } })
  else s

/-- Every sampled switch filter at its safe-assumed level; the levels at the pins stay (R134). -/
def assumeSwitches (u : Snu) : Snu :=
  { u with
    fronts := u.fronts.map fun f => SwitchFilter.assumed true f.pin
    boilerWaterOk := SwitchFilter.assumed false u.boilerWaterOk.pin
    boilerCutout := SwitchFilter.assumed true u.boilerCutout.pin
    freshLow := SwitchFilter.assumed true u.freshLow.pin
    freshEmpty := SwitchFilter.assumed true u.freshEmpty.pin
    condFull := SwitchFilter.assumed true u.condFull.pin }

/-- Every channel UNKNOWN; the codes at the pins stay (R139). -/
def forgetChannels (u : Snu) : Snu :=
  { u with
    temps := u.temps.map fun c => Channel.unsampled c.pin
    hums := u.hums.map fun c => Channel.unsampled c.pin
    boilerTemp := Channel.unsampled u.boilerTemp.pin }

/-- The sample timers start from 0 (R131). -/
def startSampling (u : Snu) : Snu := { u with switchTimer := 0, analogTimer := 0, switchDue := [], analogDue := [] }

/-- A master made ABSENT with its window timer stopped at 0 (R174). -/
def forgetMaster (x : MasterState) : MasterState := { x with present := false, window := 0 }

/-- The part wakes: settling begins, inputs and presence are set afresh, the indications of the last commit are cleared, and
the frame that woke it is skipped (R73, R80, R166, R180, R186). -/
def wakePart (s : State) : State :=
  formEffective
    { s with
      moc := { s.moc with phase := .settling, timer := 0 }
      pli := { s.pli with rx := .skip }
      supervisor := forgetMaster s.supervisor
      panels := s.panels.map forgetMaster
      pae := { s.pae with minOn := 0 }
      snu := startSampling (forgetChannels (assumeSwitches s.snu))
      pts := { s.pts with reErased := false, rewritten := false } }

/-- A character in the SLEEP condition (R180). -/
def sleepChar (c : RxChar) (s : State) : State :=
  if isAddress c = true ∧ c.byte = ownAddress then wakePart s else s

/-- A character in wake settling: every address character is one for another node (R180). -/
def settlingChar (c : RxChar) (s : State) : State :=
  if c.isBreak then setRx .hunt s
  else if isAddress c then setRx .skip s
  else s

/-- A received character, by the condition the PLI is in (R178, R180). The part is in its SLEEP condition once the ACK of
SLEEP has been sent or discarded (R185, log 16). -/
def takeChar (c : RxChar) (s : State) : State :=
  match s.moc.phase with
  | .startUp => s
  | .settling => settlingChar c s
  | .sleep => if s.pli.tx.isSome then inTurnaround c (sleepChar c) s else sleepChar c s
  | .run => if s.pli.tx.isSome then inTurnaround c (assemble c) s else assemble c s
  | .standby => if s.pli.tx.isSome then inTurnaround c (assemble c) s else assemble c s

/-- LINK_CHARACTER: a false start is discarded without any event (R169). -/
def execLinkCharacter (c : CharSamples) (s : State) : Host.Outcome State Fault Refusal :=
  match receiveChar c with
  | some x => .next (takeChar x s)
  | none => .next s

/-! ### The idle gap (R171) -/

/-- A frame addressed to the part is in progress. -/
def assembling (rx : Rx) : Bool :=
  match rx with
  | .hunt => false
  | .skip => false
  | .header _ _ => true
  | .payload _ _ _ _ _ => true
  | .check _ _ _ _ _ => true

/-- The gap limit is being timed: a frame is in progress and no response waits (R171, R178). -/
def gapRuns (s : State) : Bool := takesFrames s && s.pli.tx.isNone && assembling s.pli.rx

/-- IDLE_GAP_EXPIRY (R171). -/
def execIdleGapExpiry (s : State) : Host.Outcome State Fault Refusal :=
  .next (if gapRuns s then linkFault (setRx .hunt s) else s)

/-! ### Frames that no owner answers -/

/-- UNKNOWN_SOURCE_FRAME: dropped without response, event or presence (R173). -/
def execUnknownSourceFrame (source kind : Byte) (payload : List Byte) (noise : Bool) (s : State) :
    Host.Outcome State Fault Refusal :=
  .next (acceptFrame source kind payload noise s)

/-- UNKNOWN_KIND_REQUEST: answered with NAK KIND_UNKNOWN after the presence update (R175, R191). -/
def execUnknownKindRequest (m : Master) (kind : Byte) (payload : List Byte) (noise : Bool) (s : State) :
    Host.Outcome State Fault Refusal :=
  .next (acceptFrame (masterAddress m) kind payload noise s)

/-! ### Responses (R178, R179) -/

/-- The waiting response goes out whole, the driver is released and frame assembly resumes in HUNT (R178, log 11). -/
def sendResponse (s : State) : State :=
  match s.pli.tx with
  | some r => { s with pli := { s.pli with tx := none, rx := .hunt, sent := responseChars r } }
  | none => s

/-- RESPONSE_SEND (R178). -/
def execResponseSend (s : State) : Host.Outcome State Fault Refusal := .next (sendResponse s)

/-- A character read back differs from the one sent in byte, mark bit or stop bit; noise alone does not (R179). A start bit that
reads 1, so that no character is read back, is taken as a mismatch (DESIGN CHOICE, unsafe, log 30). -/
def echoDiffers (sent : WireChar) (readBack : CharSamples) : Bool :=
  match receiveChar readBack with
  | some x => x.framing || x.isBreak || decide (x.byte ≠ sent.byte) || decide (x.mark ≠ sent.mark)
  | none => true

/-- The response is cut off at the character numbered `n`: only the characters before it went out whole (R179). -/
def cutResponse (n : Nat) (chars : List WireChar) (s : State) : State :=
  linkFault { s with pli := { s.pli with tx := none, rx := .hunt, sent := chars.take n } }

/-- ECHO_MISMATCH at the character numbered `n` of the response; a character read back as it was sent is no mismatch and
has no effect (R179). -/
def execEchoMismatch (n : Nat) (readBack : CharSamples) (s : State) : Host.Outcome State Fault Refusal :=
  match s.pli.tx with
  | some r =>
    match (responseChars r)[n]? with
    | some w => .next (if echoDiffers w readBack then cutResponse n (responseChars r) s else s)
    | none => .next s
  | none => .next s

/-! ### Presence (R174) -/

/-- The consequences in other blocks of a master becoming ABSENT (R66, R75, R174). -/
def lost (m : Master) (s : State) : State :=
  match m with
  | .supervisor => formEffective s
  | .panel b => enterParking b .masterLost s

/-- A window timer runs: the master is PRESENT and the part is neither asleep nor settling (R174). -/
def windowRuns (m : Master) (s : State) : Bool :=
  (masterState m s).present && !(decide (s.moc.phase = .sleep) || decide (s.moc.phase = .settling))

/-- A master becomes ABSENT as its window timer reaches its window (R174; the timer stands there, DEDUCED, log 18). -/
def expirePresence (m : Master) (s : State) : State :=
  lost m <| raiseSup .masterLost <|
    setMaster m { masterState m s with present := false, window := windowMs m } s

/-- PRESENCE_EXPIRY (R174). -/
def execPresenceExpiry (m : Master) (s : State) : Host.Outcome State Fault Refusal :=
  .next (if windowRuns m s then expirePresence m s else s)

/-- PING (R177). -/
def execPing (m : Master) (noise : Bool) (s : State) : Host.Outcome State Fault Refusal :=
  .next (takeRequest m noise .ping s)

end Sys2Proof.Machine
end

