-- ==== Sys2Proof/Machine/Modes.lean ====
section
/-! DEFINITION. Commands of the MOC: the resets, the end of start-up, wake and its settling, plant modes, warm restart and
service control (chapter 11). -/

namespace Sys2Proof.Machine

/-! ### Resets (R181, R182 and the reset table of each chapter) -/

/-- The working table loaded at a start-up, and what the load sets; the store and its marker are as they were (R166,
R167). -/
def loadTable (p : Pts) : Pts :=
  { table := if p.marker then (match p.store with | some t => t | none => ProfileTable.factory) else ProfileTable.factory
    dirty := !p.marker, phase := .idle, phaseTimer := 0, reErased := false, rewritten := false, snapshot := none
    lastResult := .none, store := p.store, marker := p.marker, storeInvalid := !p.marker }

/-- The sense unit after a reset: the pins stand as they are (R131, R134, R139). -/
def resetSense (u : Snu) : Snu := startSampling (forgetChannels (assumeSwitches u))

/-- A bay master after a reset: RESTARTED pending and every event enabled, or kept empty for an unfitted bay (R149, R150,
R174). -/
def resetPanel (fitted : Bool) : MasterState :=
  if fitted then
    { present := false, window := 0, pending := panelBit .restarted, mask := eventSet (.panel .b0), line := true }
  else { present := false, window := 0, pending := 0, mask := 0, line := false }

/-- A sequencer after a reset (R41). -/
def resetBay (fitted : Bool) : Bsq :=
  { state := if fitted then .idle else .absent, context := none, holds := HoldSet.empty, parkTimer := 0
    parkMinTaken := false, faultAfterPark := false, admission := 0 }

/-- A power-on or pin reset with the straps as they read (R181): everything but the waiting commands, the pins and the
store is set afresh. -/
def resetPart (cause : ResetCause) (straps : Straps) (s : State) : State :=
  { State.reset with
    pending := s.pending
    fitted := straps.fitted
    moc := { State.reset.moc with resetCause := cause }
    pli := { State.reset.pli with fastRate := straps.fastRate }
    panels := straps.fitted.map resetPanel
    bsq := straps.fitted.map resetBay
    snu := resetSense s.snu
    pts := loadTable s.pts
    freeCount := s.freeCount }

/-- POWER_ON_RESET (R181). -/
def execPowerOnReset (straps : Straps) (s : State) : Host.Outcome State Fault Refusal :=
  .next (resetPart .powerOn straps s)

/-- PIN_RESET (R181). -/
def execPinReset (straps : Straps) (s : State) : Host.Outcome State Fault Refusal := .next (resetPart .pin straps s)

/-- Start-up ends: RUN, the round timer from 0, frame assembly in HUNT (R181). -/
def endStartup (s : State) : State :=
  { s with
    moc := { s.moc with phase := .run, timer := startUpMs }
    pae := { s.pae with roundTimer := 0 }
    pli := { s.pli with rx := .hunt } }

/-- STARTUP_END; no effect outside start-up (R181). -/
def execStartupEnd (s : State) : Host.Outcome State Fault Refusal :=
  .next (if s.moc.phase = .startUp then endStartup s else s)

/-! ### Wake (R186) -/

/-- WAKE: the waking address character, taken in the SLEEP condition; no effect elsewhere (R186). -/
def execWake (s : State) : Host.Outcome State Fault Refusal :=
  .next (if s.moc.phase = .sleep ∧ s.pli.tx.isNone = true then wakePart s else s)

/-- Settling ends: STANDBY, the round timer from 0, WOKE (R186). -/
def endSettling (s : State) : State :=
  raiseSup .woke
    { s with
      moc := { s.moc with phase := .standby, timer := settlingMs }
      pae := { s.pae with roundTimer := 0 } }

/-- WAKE_SETTLING_END; no effect outside settling (R186). -/
def execWakeSettlingEnd (s : State) : Host.Outcome State Fault Refusal :=
  .next (if s.moc.phase = .settling then endSettling s else s)

/-! ### Requests -/

/-- PLANT_MODE for RUN (R183). -/
def execPlantModeRun (m : Master) (noise : Bool) (s : State) : Host.Outcome State Fault Refusal :=
  .next (takeRequest m noise (.plantMode 0x00#8) s)

/-- PLANT_MODE for STANDBY (R183). -/
def execPlantModeStandby (m : Master) (noise : Bool) (s : State) : Host.Outcome State Fault Refusal :=
  .next (takeRequest m noise (.plantMode 0x01#8) s)

/-- PLANT_MODE for SLEEP (R183, R185). -/
def execPlantModeSleep (m : Master) (noise : Bool) (s : State) : Host.Outcome State Fault Refusal :=
  .next (takeRequest m noise (.plantMode 0x02#8) s)

/-- WARM_RESTART (R187). -/
def execWarmRestart (m : Master) (noise : Bool) (s : State) : Host.Outcome State Fault Refusal :=
  .next (takeRequest m noise .warmRestart s)

/-- OUTPUT_SERVICE with mode SERVICE (R188). -/
def execOutputService (m : Master) (noise : Bool) (output value : Byte) (s : State) :
    Host.Outcome State Fault Refusal :=
  .next (takeRequest m noise (.outputService output 0x01#8 value) s)

/-- OUTPUT_SERVICE with mode AUTO (R189). -/
def execOutputServiceAuto (m : Master) (noise : Bool) (output value : Byte) (s : State) :
    Host.Outcome State Fault Refusal :=
  .next (takeRequest m noise (.outputService output 0x00#8 value) s)

end Sys2Proof.Machine
end

