-- ==== Sys2Proof/Machine/Queues.lean ====
section
/-! DEFINITION. The request commands of status, events, queues, outcomes, bays, budget, profiles and boiler (chapters 2, 3, 4,
5, 8 and 9): each is a request frame taken whole (R175), and what its owner does stands in Requests.lean. -/

namespace Sys2Proof.Machine

/-- STATUS_PLANT (R156). -/
def execStatusPlant (m : Master) (noise : Bool) (part : Byte) (s : State) : Host.Outcome State Fault Refusal :=
  .next (takeRequest m noise (.statusPlant part) s)

/-- STATUS_BAY (R155). -/
def execStatusBay (m : Master) (noise : Bool) (bay part : Byte) (s : State) : Host.Outcome State Fault Refusal :=
  .next (takeRequest m noise (.statusBay bay part) s)

/-- EVENTS_READ (R151). -/
def execEventsRead (m : Master) (noise : Bool) (s : State) : Host.Outcome State Fault Refusal :=
  .next (takeRequest m noise .eventsRead s)

/-- EVENTS_CLEAR (R152). -/
def execEventsClear (m : Master) (noise : Bool) (events : Half) (s : State) : Host.Outcome State Fault Refusal :=
  .next (takeRequest m noise (.eventsClear events) s)

/-- EVENTS_MASK (R153). -/
def execEventsMask (m : Master) (noise : Bool) (mask : Half) (s : State) : Host.Outcome State Fault Refusal :=
  .next (takeRequest m noise (.eventsMask mask) s)

/-- STEP_APPEND (R24 to R27). -/
def execStepAppend (m : Master) (noise : Bool) (bay expected : Byte) (records : List StepRecord) (s : State) :
    Host.Outcome State Fault Refusal :=
  .next (takeRequest m noise (.stepAppend bay expected records) s)

/-- QUEUE_CANCEL (R30). -/
def execQueueCancel (m : Master) (noise : Bool) (bay : Byte) (s : State) : Host.Outcome State Fault Refusal :=
  .next (takeRequest m noise (.queueCancel bay) s)

/-- OUTCOME_READ (R146). -/
def execOutcomeRead (m : Master) (noise : Bool) (bay : Byte) (s : State) : Host.Outcome State Fault Refusal :=
  .next (takeRequest m noise (.outcomeRead bay) s)

/-- OUTCOME_FREE (R147). -/
def execOutcomeFree (m : Master) (noise : Bool) (bay freed : Byte) (s : State) : Host.Outcome State Fault Refusal :=
  .next (takeRequest m noise (.outcomeFree bay freed) s)

/-- BAY_PAUSE (R64). -/
def execBayPause (m : Master) (noise : Bool) (bay admission : Byte) (s : State) : Host.Outcome State Fault Refusal :=
  .next (takeRequest m noise (.bayPause bay admission) s)

/-- BAY_RESUME (R64). -/
def execBayResume (m : Master) (noise : Bool) (bay admission : Byte) (s : State) : Host.Outcome State Fault Refusal :=
  .next (takeRequest m noise (.bayResume bay admission) s)

/-- PROGRAM_ABORT (R62). -/
def execProgramAbort (m : Master) (noise : Bool) (bay admission : Byte) (s : State) :
    Host.Outcome State Fault Refusal :=
  .next (takeRequest m noise (.programAbort bay admission) s)

/-- BUDGET_SET (R74). -/
def execBudgetSet (m : Master) (noise : Bool) (value : Half) (s : State) : Host.Outcome State Fault Refusal :=
  .next (takeRequest m noise (.budgetSet value) s)

/-- PROFILE_READ (R159). -/
def execProfileRead (m : Master) (noise : Bool) (slot : Byte) (s : State) : Host.Outcome State Fault Refusal :=
  .next (takeRequest m noise (.profileRead slot) s)

/-- PROFILE_WRITE (R160). -/
def execProfileWrite (m : Master) (noise : Bool) (slot state : Byte) (values : ProfileValues) (s : State) :
    Host.Outcome State Fault Refusal :=
  .next (takeRequest m noise (.profileWrite slot state values) s)

/-- PROFILE_COMMIT (R162). -/
def execProfileCommit (m : Master) (noise : Bool) (s : State) : Host.Outcome State Fault Refusal :=
  .next (takeRequest m noise .profileCommit s)

/-- BAY_CLEAR (R65). -/
def execBayClear (m : Master) (noise : Bool) (bay : Byte) (s : State) : Host.Outcome State Fault Refusal :=
  .next (takeRequest m noise (.bayClear bay) s)

/-- BOILER_CLEAR (R107). -/
def execBoilerClear (m : Master) (noise : Bool) (s : State) : Host.Outcome State Fault Refusal :=
  .next (takeRequest m noise .boilerClear s)

end Sys2Proof.Machine
end

