-- ==== Sys2Proof/Machine/Rounds.lean ====
section
/-! DEFINITION. The commands of an allotment round and of its publication's readers (R50, R72, R92, R110, R123). -/

namespace Sys2Proof.Machine

/-- ALLOTMENT_ROUND; no effect where the round timer is stopped (R72). -/
def execAllotmentRound (s : State) : Host.Outcome State Fault Refusal :=
  .next (if roundsRun s then allotmentRound s else s)

/-- STEAM_YIELD: the BLC takes a publication (R110 to R114). -/
def execSteamYield (s : State) : Host.Outcome State Fault Refusal := .next (takeSteam s)

/-- HEATER_DRIVE_UPDATE: the ALC takes a publication (R123). -/
def execHeaterDriveUpdate (s : State) : Host.Outcome State Fault Refusal := .next (takeHeaters s)

/-- NO_POWER_REEVALUATION: the BSQ of a bay takes a publication (R50). -/
def execNoPowerReevaluation (b : Bay) (s : State) : Host.Outcome State Fault Refusal := .next (takePower b s)

end Sys2Proof.Machine
end

