-- ==== Sys2Proof/Machine/Sampling.lean ====
section
/-! DEFINITION. The sense unit's commands: switch samples and analog conversions, with what their consumers do in the same
event (chapter 7). -/

namespace Sys2Proof.Machine

/-! ### Switches (R132, R133) -/

/-- A filtered transition. -/
inductive Edge where
  | rising | falling
  deriving DecidableEq, Repr

/-- The run count after a sample (R132). -/
def nextRun (f : SwitchFilter) (level : Bool) : Nat := if level = f.raw then min 3 (f.run + 1) else 1

/-- A switch filter after a sample (R132). -/
def filterSample (f : SwitchFilter) (level : Bool) : SwitchFilter :=
  { pin := level, raw := level
    filtered := if nextRun f level = 3 then level else f.filtered
    run := nextRun f level
    confirmed := f.confirmed || decide (nextRun f level = 3) }

/-- The filtered transition of a sample, if it makes one (R132). -/
def filterEdge (old new : SwitchFilter) : Option Edge :=
  if old.filtered = new.filtered then none else if new.filtered then some .rising else some .falling

/-- A switch's filter. -/
def switchOf (u : Snu) : Switch → SwitchFilter
  | .front b => u.fronts.get b
  | .boilerWaterOk => u.boilerWaterOk
  | .boilerCutout => u.boilerCutout
  | .freshLow => u.freshLow
  | .freshEmpty => u.freshEmpty
  | .condFull => u.condFull

/-- Replaces a switch's filter. -/
def setSwitch (sw : Switch) (f : SwitchFilter) (u : Snu) : Snu :=
  match sw with
  | .front b => { u with fronts := u.fronts.set b f }
  | .boilerWaterOk => { u with boilerWaterOk := f }
  | .boilerCutout => { u with boilerCutout := f }
  | .freshLow => { u with freshLow := f }
  | .freshEmpty => { u with freshEmpty := f }
  | .condFull => { u with condFull := f }

/-- A switch that is sampled: every one but the front of an unfitted bay (R130). -/
def switchFitted (s : State) : Switch → Bool
  | .front b => s.fitted.get b
  | .boilerWaterOk => true
  | .boilerCutout => true
  | .freshLow => true
  | .freshEmpty => true
  | .condFull => true

/-- BOILER_WATER_OK turns OK (R98, R100). -/
def waterOk (s : State) : State :=
  match s.blc.state with
  | .fill => enterHeat s
  | .cold => examineStart s
  | _ => s

/-- BOILER_WATER_OK turns not OK (R103, R104). -/
def waterLost (s : State) : State := if isHot s.blc.state then towardsFill s else s

/-- FRESH_EMPTY turns true (R100, R135). -/
def freshEmptied (s : State) : State :=
  let s1 := raiseSup .freshEmpty s
  if s1.blc.state = .fill then toBoiler .starved s1 else s1

/-- COND_FULL turns true (R127). -/
def condensateFull (s : State) : State := forBays reholdTank (forceCompressorOff (raiseSup .condFull s))

/-- What the consumers of a switch do in the event of its filtered transition (R133). -/
def consumeEdge (sw : Switch) (e : Edge) (s : State) : State :=
  match sw, e with
  | .front b, _ => driveValve b (reholdFront b s)
  | .boilerWaterOk, .rising => waterOk s
  | .boilerWaterOk, .falling => waterLost s
  | .boilerCutout, .rising => lockBoiler .cutout s
  | .boilerCutout, .falling => examineStart s
  | .freshLow, .rising => raiseSup .freshLow s
  | .freshLow, .falling => s
  | .freshEmpty, .rising => freshEmptied s
  | .freshEmpty, .falling => refill s
  | .condFull, .rising => condensateFull s
  | .condFull, .falling => forBays reholdTank s

/-- A sample of a switch, with its transition taken by the consumers (R132, R133). -/
def takeSwitch (sw : Switch) (level : Bool) (s : State) : State :=
  let f := switchOf s.snu sw
  let g := filterSample f level
  let s1 := { s with snu := { setSwitch sw g s.snu with switchDue := s.snu.switchDue.erase sw } }
  match filterEdge f g with
  | some e => consumeEdge sw e s1
  | none => s1

/-- Samples are taken in every condition but SLEEP (R131). -/
def samplesRun (s : State) : Bool := decide (s.moc.phase ≠ .sleep)

/-- SWITCH_SAMPLE (R132). -/
def execSwitchSample (sw : Switch) (level : Bool) (s : State) : Host.Outcome State Fault Refusal :=
  .next (if samplesRun s && switchFitted s sw then takeSwitch sw level s else s)

/-! ### Analog channels (R136, R137) -/

/-- The value of a raw code, if it is a valid sample of its channel (R136). -/
def convert (ch : Analog) (raw : BitVec 10) : Option Nat :=
  match ch with
  | .bayTemperature _ => if 100 ≤ raw.toNat ∧ raw.toNat ≤ 820 then some ((raw.toNat - 100) / 8) else none
  | .bayHumidity _ => if 100 ≤ raw.toNat ∧ raw.toNat ≤ 900 then some ((raw.toNat - 100) / 8) else none
  | .boilerTemperature => if 64 ≤ raw.toNat ∧ raw.toNat ≤ 999 then some ((raw.toNat - 64) / 5) else none

/-- A channel after a valid sample (R137). -/
def validSample (v : Nat) (c : Channel) : Channel :=
  match c.state with
  | .unknown => { c with state := .valid, last := some v, invalidRun := 0 }
  | .valid => { c with last := some v }
  | .stale => { c with state := .valid, last := some v, invalidRun := 0 }
  | .fault =>
    if 3 ≤ c.validRun + 1 then { c with state := .valid, last := some v, invalidRun := 0, validRun := 0 }
    else { c with last := some v, invalidRun := 0, validRun := c.validRun + 1 }

/-- A channel that has no valid sample for a run of invalid ones: FAULT at the fifth (R137). -/
def invalidAgain (c : Channel) : Channel :=
  { c with state := if 5 ≤ c.invalidRun + 1 then .fault else c.state, invalidRun := min 5 (c.invalidRun + 1) }

/-- A channel after an invalid sample (R137). -/
def invalidSample (c : Channel) : Channel :=
  match c.state with
  | .unknown => invalidAgain c
  | .valid => { c with state := .stale, invalidRun := 1 }
  | .stale => invalidAgain c
  | .fault => { c with validRun := 0 }

/-- A channel after a conversion (R137). -/
def channelSample (ch : Analog) (raw : BitVec 10) (c : Channel) : Channel :=
  let c1 := { c with pin := raw, rawCode := some raw }
  match convert ch raw with
  | some v => validSample v c1
  | none => invalidSample c1

/-- A channel. -/
def channelOf (u : Snu) : Analog → Channel
  | .bayTemperature b => u.temps.get b
  | .bayHumidity b => u.hums.get b
  | .boilerTemperature => u.boilerTemp

/-- Replaces a channel. -/
def setChannel (ch : Analog) (c : Channel) (u : Snu) : Snu :=
  match ch with
  | .bayTemperature b => { u with temps := u.temps.set b c }
  | .bayHumidity b => { u with hums := u.hums.set b c }
  | .boilerTemperature => { u with boilerTemp := c }

/-- A channel that is sampled: every one but those of an unfitted bay (R130). -/
def channelFitted (s : State) : Analog → Bool
  | .bayTemperature b => s.fitted.get b
  | .bayHumidity b => s.fitted.get b
  | .boilerTemperature => true

/-- The channel goes to FAULT. -/
def reachesFault (old new : Channel) : Bool := decide (old.state ≠ .fault) && decide (new.state = .fault)

/-- The channel becomes VALID. -/
def becomesValid (old new : Channel) : Bool := decide (old.state ≠ .valid) && decide (new.state = .valid)

/-- The channel leaves VALID. -/
def leavesValid (old new : Channel) : Bool := decide (old.state = .valid) && decide (new.state ≠ .valid)

/-- The value of a sample that leaves its channel VALID. -/
def validValue (c : Channel) : Option Nat :=
  match c.state with
  | .valid => c.last
  | _ => none

/-- The satisfied-sample count after a sample of the compared channel (R57). -/
def nextSatisfied (target : Nat) (c : Channel) (count : Nat) : Nat :=
  match validValue c with
  | some v => if v ≤ target then count + 1 else 0
  | none => 0

/-- Compares a sample with the goal of the running step, if its kind is compared with this channel and a goal was given;
the third satisfied sample ends the step with DONE (R57, R141). -/
def compareGoal (kind : StepKind) (b : Bay) (c : Channel) (s : State) : State :=
  match runningCopy (s.bsq.get b), (s.bsq.get b).context with
  | some k, some x =>
    if k.kind = kind ∧ k.goalGiven = true then
      match k.target with
      | some target =>
        let n := nextSatisfied target c x.satisfied
        let s1 := setContext b (some { x with satisfied := n }) s
        if 3 ≤ n then endStep b .done s1 else s1
      | none => s
    else s
  | _, _ => s

/-- The temperature sample reads at or above the running step's limit (R94). -/
def atLimit (b : Bay) (c : Channel) (s : State) : Bool :=
  match runningCopy (s.bsq.get b), validValue c with
  | some k, some v => (match k.tempLimit with | some limit => decide (limit ≤ v) | none => false)
  | _, _ => false

/-- A park past its 20 s ends on a temperature sample that lets it (R69). -/
def parkSample (b : Bay) (s : State) : State :=
  if (s.bsq.get b).state = .parking ∧ parkMinMs ≤ (s.bsq.get b).parkTimer ∧ parkCool b s = true then endPark b s else s

/-- A bay channel reaching FAULT: SENSOR_FAULT, and the bay parks or is marked (R67, R138). -/
def channelFault (b : Bay) (old new : Channel) (s : State) : State :=
  if reachesFault old new then baySensorFault b (raiseSup .sensorFault s) else s

/-- A bay channel becoming VALID has admission examined (R34, R138). -/
def channelBack (b : Bay) (old new : Channel) (s : State) : State :=
  if becomesValid old new then examineAdmission b s else s

/-- The consumers of a bay temperature conversion: the BSQ and the ALC (R57, R67, R69, R94, R122, R137). -/
def consumeTemperature (b : Bay) (old new : Channel) (s : State) : State :=
  let s1 := channelFault b old new s
  let s2 := if leavesValid old new || atLimit b new s1 then withdrawAux b s1 else s1
  let s3 := compareGoal .cool b new (formDemand b s2)
  channelBack b old new (parkSample b s3)

/-- The consumers of a bay humidity conversion: the BSQ (R57, R67, R137). -/
def consumeHumidity (b : Bay) (old new : Channel) (s : State) : State :=
  channelBack b old new (compareGoal .dry b new (channelFault b old new s))

/-- The boiler thresholds on a VALID sample: lock, ready, reheat (R102 to R104, R106). -/
def compareBoiler (v : Nat) (s : State) : State :=
  if lockTemp ≤ v then lockBoiler .overTemperature s
  else if s.blc.state = .heat ∧ readyTemp ≤ v then toBoiler .ready s
  else if s.blc.state = .ready ∧ v < reheatTemp then toBoiler .heat s
  else s

/-- The consumer of a boiler temperature conversion: the BLC (R98, R102, R106, R137). -/
def consumeBoiler (old new : Channel) (s : State) : State :=
  if reachesFault old new then lockBoiler .sensor (raiseSup .sensorFault s)
  else
    let s1 := match validValue new with | some v => compareBoiler v s | none => s
    if becomesValid old new then examineStart s1 else s1

/-- A conversion of a channel, with what its consumers do (R137). -/
def takeAnalog (ch : Analog) (raw : BitVec 10) (s : State) : State :=
  let old := channelOf s.snu ch
  let new := channelSample ch raw old
  let s1 := { s with snu := { setChannel ch new s.snu with analogDue := s.snu.analogDue.erase ch } }
  match ch with
  | .bayTemperature b => consumeTemperature b old new s1
  | .bayHumidity b => consumeHumidity b old new s1
  | .boilerTemperature => consumeBoiler old new s1

/-- ANALOG_SAMPLE (R137). -/
def execAnalogSample (ch : Analog) (raw : BitVec 10) (s : State) : Host.Outcome State Fault Refusal :=
  .next (if samplesRun s && channelFitted s ch then takeAnalog ch raw s else s)

end Sys2Proof.Machine
end

