-- ==== Sys2Proof/Machine/Timers.lean ====
section
/-! DEFINITION. The commands that are the expiry of a timer: step duration, stall, park, fill, idle cooldown and commit phase.
Each says that its timer reaches its limit, and is taken only while that timer counts (log 2). -/

namespace Sys2Proof.Machine

/-! ### The bay sequencer's timers -/

/-- The result of a step that ends by duration (R58). -/
def durationResult (c : StepCopy) : Result :=
  if c.goalGiven = true ∧ (c.kind = .steam ∨ c.kind = .dry ∨ c.kind = .cool) then .short else .done

/-- The step timer of a RUNNING step reaches its clamped duration (R58). -/
def expireStep (b : Bay) (s : State) : State :=
  match runningCopy (s.bsq.get b), (s.bsq.get b).context with
  | some c, some x =>
    endStep b (durationResult c) (setContext b (some { x with stepTimer := c.duration * 1000 }) s)
  | _, _ => s

/-- STEP_DURATION_EXPIRY (R58). -/
def execStepDurationExpiry (b : Bay) (s : State) : Host.Outcome State Fault Refusal := .next (expireStep b s)

/-- The stall timer counts: HELD with a plant reason (R54). -/
def stallCounts (q : Bsq) : Bool := decide (q.state = .held) && hasPlantReason q.holds

/-- The stall timer reaches 900 s (R55). -/
def expireStall (b : Bay) (s : State) : State :=
  match (s.bsq.get b).context with
  | some x => enterParking b .stalled (setContext b (some { x with stallTimer := stallMs }) s)
  | none => s

/-- STALL (R55). -/
def execStall (b : Bay) (s : State) : Host.Outcome State Fault Refusal :=
  .next (if stallCounts (s.bsq.get b) then expireStall b s else s)

/-- The park timer reaches 20 s, once in a park: the park ends if the temperature lets it (R69). -/
def parkMinimum (b : Bay) (s : State) : State :=
  let q := s.bsq.get b
  if q.parkMinTaken then s
  else
    let s1 := setBsq b { q with parkTimer := max q.parkTimer parkMinMs, parkMinTaken := true } s
    if parkCool b s1 then endPark b s1 else s1

/-- The park timer reaches 180 s (R69). -/
def parkMaximum (b : Bay) (s : State) : State :=
  endPark b (setBsq b { s.bsq.get b with parkTimer := parkMaxMs, parkMinTaken := true } s)

/-- The park timer of a PARKING bay reaches a limit (R69). -/
def expirePark (b : Bay) (limit : ParkLimit) (s : State) : State :=
  if (s.bsq.get b).state = .parking then
    match limit with
    | .minimum => parkMinimum b s
    | .maximum => parkMaximum b s
  else s

/-- PARK_TIMER (R69). -/
def execParkTimer (b : Bay) (limit : ParkLimit) (s : State) : Host.Outcome State Fault Refusal :=
  .next (expirePark b limit s)

/-! ### The boiler's timers -/

/-- FILL_TIMEOUT: the fill timer reaches 45 s (R100). -/
def execFillTimeout (s : State) : Host.Outcome State Fault Refusal :=
  .next (if s.blc.state = .fill then toBoiler .starved s else s)

/-- The idle cooldown timer counts: HEAT or READY, and steam not wanted (R105). -/
def cooldownCounts (s : State) : Bool := isHot s.blc.state && !steamWanted s

/-- IDLE_COOLDOWN: the idle cooldown timer reaches 300 s (R105). -/
def execIdleCooldown (s : State) : Host.Outcome State Fault Refusal :=
  .next (if cooldownCounts s then toBoiler .cold s else s)

/-! ### The commit (R163 to R165) -/

/-- Entry to a phase, its timer from 0 (R163). -/
def enterPhase (phase : CommitPhase) (p : Pts) : Pts := { p with phase := phase, phaseTimer := 0 }

/-- The commit ends in FAIL (R165); the re-erase and rewrite indications stay as they are (R166; DESIGN CHOICE, unsafe,
log 29). -/
def commitFails (s : State) : State :=
  raiseSup .storeFault
    { s with pts := { enterPhase .idle s.pts with lastResult := .fail, snapshot := none, dirty := true } }

/-- The commit ends in success (R164); the re-erase and rewrite indications stay as they are (R166; DESIGN CHOICE, unsafe,
log 29). -/
def commitDone (s : State) : State :=
  raiseSup .storeDone
    { s with pts := { enterPhase .idle s.pts with lastResult := .done, snapshot := none, marker := true } }

/-- Puts the table store's part. -/
def setPts (p : Pts) (s : State) : State := { s with pts := p }

/-- The end of a commit phase, with the result of its check where it makes one (R163). After ERASING the table area is
blank, after WRITING it holds the snapshot (log 19). -/
def endPhase (pass : Bool) (s : State) : State :=
  match s.pts.phase with
  | .idle => s
  | .erasing => setPts { enterPhase .checking s.pts with store := none } s
  | .checking =>
    if pass then setPts (enterPhase .writing s.pts) s
    else if s.pts.reErased then commitFails s
    else setPts { enterPhase .erasing s.pts with reErased := true } s
  | .writing => setPts { enterPhase .verifying s.pts with store := s.pts.snapshot } s
  | .verifying =>
    if pass then setPts (enterPhase .marking s.pts) s
    else if s.pts.rewritten then commitFails s
    else setPts { enterPhase .writing s.pts with rewritten := true } s
  | .marking => commitDone { s with pts := { s.pts with store := s.pts.snapshot } }

/-- COMMIT_PHASE_END (R163). -/
def execCommitPhaseEnd (pass : Bool) (s : State) : Host.Outcome State Fault Refusal := .next (endPhase pass s)

end Sys2Proof.Machine
end

