-- ==== Sys2Proof/Machine/Dispatch.lean ====
section
/-! DEFINITION. The meaning of every command: one arm for each constructor, each a call of that command's own meaning. -/

namespace Sys2Proof.Machine

/-- The effect of a command on everything but the queue of waiting commands. -/
def exec (i : Instr) (s : State) : Host.Outcome State Fault Refusal :=
  match i with
  | .powerOnReset straps => Sys2Proof.Machine.execPowerOnReset straps s
  | .pinReset straps => Sys2Proof.Machine.execPinReset straps s
  | .startupEnd => Sys2Proof.Machine.execStartupEnd s
  | .linkCharacter c => Sys2Proof.Machine.execLinkCharacter c s
  | .idleGapExpiry => Sys2Proof.Machine.execIdleGapExpiry s
  | .unknownSourceFrame source kind payload noise => Sys2Proof.Machine.execUnknownSourceFrame source kind payload noise s
  | .unknownKindRequest m kind payload noise => Sys2Proof.Machine.execUnknownKindRequest m kind payload noise s
  | .responseSend => Sys2Proof.Machine.execResponseSend s
  | .echoMismatch sent readBack => Sys2Proof.Machine.execEchoMismatch sent readBack s
  | .presenceExpiry m => Sys2Proof.Machine.execPresenceExpiry m s
  | .ping m noise => Sys2Proof.Machine.execPing m noise s
  | .statusPlant m noise part => Sys2Proof.Machine.execStatusPlant m noise part s
  | .statusBay m noise bay part => Sys2Proof.Machine.execStatusBay m noise bay part s
  | .eventsRead m noise => Sys2Proof.Machine.execEventsRead m noise s
  | .eventsClear m noise events => Sys2Proof.Machine.execEventsClear m noise events s
  | .eventsMask m noise mask => Sys2Proof.Machine.execEventsMask m noise mask s
  | .stepAppend m noise bay expected records => Sys2Proof.Machine.execStepAppend m noise bay expected records s
  | .queueCancel m noise bay => Sys2Proof.Machine.execQueueCancel m noise bay s
  | .outcomeRead m noise bay => Sys2Proof.Machine.execOutcomeRead m noise bay s
  | .outcomeFree m noise bay freed => Sys2Proof.Machine.execOutcomeFree m noise bay freed s
  | .bayPause m noise bay admission => Sys2Proof.Machine.execBayPause m noise bay admission s
  | .bayResume m noise bay admission => Sys2Proof.Machine.execBayResume m noise bay admission s
  | .programAbort m noise bay admission => Sys2Proof.Machine.execProgramAbort m noise bay admission s
  | .budgetSet m noise value => Sys2Proof.Machine.execBudgetSet m noise value s
  | .profileRead m noise slot => Sys2Proof.Machine.execProfileRead m noise slot s
  | .profileWrite m noise slot state values => Sys2Proof.Machine.execProfileWrite m noise slot state values s
  | .profileCommit m noise => Sys2Proof.Machine.execProfileCommit m noise s
  | .plantModeRun m noise => Sys2Proof.Machine.execPlantModeRun m noise s
  | .plantModeStandby m noise => Sys2Proof.Machine.execPlantModeStandby m noise s
  | .plantModeSleep m noise => Sys2Proof.Machine.execPlantModeSleep m noise s
  | .warmRestart m noise => Sys2Proof.Machine.execWarmRestart m noise s
  | .outputService m noise output value => Sys2Proof.Machine.execOutputService m noise output value s
  | .outputServiceAuto m noise output value => Sys2Proof.Machine.execOutputServiceAuto m noise output value s
  | .bayClear m noise bay => Sys2Proof.Machine.execBayClear m noise bay s
  | .boilerClear m noise => Sys2Proof.Machine.execBoilerClear m noise s
  | .wake => Sys2Proof.Machine.execWake s
  | .wakeSettlingEnd => Sys2Proof.Machine.execWakeSettlingEnd s
  | .allotmentRound => Sys2Proof.Machine.execAllotmentRound s
  | .steamYield => Sys2Proof.Machine.execSteamYield s
  | .heaterDriveUpdate => Sys2Proof.Machine.execHeaterDriveUpdate s
  | .noPowerReevaluation b => Sys2Proof.Machine.execNoPowerReevaluation b s
  | .switchSample sw level => Sys2Proof.Machine.execSwitchSample sw level s
  | .analogSample ch raw => Sys2Proof.Machine.execAnalogSample ch raw s
  | .stepDurationExpiry b => Sys2Proof.Machine.execStepDurationExpiry b s
  | .stall b => Sys2Proof.Machine.execStall b s
  | .parkTimer b limit => Sys2Proof.Machine.execParkTimer b limit s
  | .fillTimeout => Sys2Proof.Machine.execFillTimeout s
  | .idleCooldown => Sys2Proof.Machine.execIdleCooldown s
  | .commitPhaseEnd pass => Sys2Proof.Machine.execCommitPhaseEnd pass s

end Sys2Proof.Machine
end

