-- ==== Sys2Proof/Config.lean ====
section
/-! DEFINITION. What the manual leaves to the world outside the part: the one free value of the model. -/

namespace Sys2Proof

/-- Whether the non-volatile store reads as it should at a check (R163), for the n-th free value used.
The manual fixes no such result; a commit phase that ends by itself takes this value (log 7). -/
opaque Config.storeReadsBack : Nat → Bool

end Sys2Proof
end

