-- ==== Sys2Proof/Machine/Time.lean ====
section
/-! DEFINITION. What happens while no command waits: the events that have become due, in a fixed order, and the passing of 1 ms
(DESIGN CHOICE, unsafe, logs 1 and 3). -/

namespace Sys2Proof.Machine

/-! ### Due events -/

/-- Every switch in ascending bay index, then as R130 lists them. -/
def allSwitches : List Switch :=
  Bay.all.map Switch.front ++ [.boilerWaterOk, .boilerCutout, .freshLow, .freshEmpty, .condFull]

/-- Every channel as R130 lists them. -/
def allChannels : List Analog :=
  Bay.all.map Analog.bayTemperature ++ Bay.all.map Analog.bayHumidity ++ [.boilerTemperature]

/-- The sampled switches and channels (R130). -/
def sampledSwitches (s : State) : List Switch := allSwitches.filter (switchFitted s)
def sampledChannels (s : State) : List Analog := allChannels.filter (channelFitted s)

/-- The five masters. -/
def allMasters : List Master := .supervisor :: Bay.all.map Master.panel

/-- The next sample of the present expiry of a sample timer, at the level or code standing at its pin (R131). -/
def dueSample (s : State) : Option Instr :=
  match s.snu.switchDue, s.snu.analogDue with
  | sw :: _, _ => some (.switchSample sw (switchOf s.snu sw).pin)
  | [], ch :: _ => some (.analogSample ch (channelOf s.snu ch).pin)
  | [], [] => none

/-- The step timer of a RUNNING step stands at its duration (R58). -/
def stepDue (q : Bsq) : Bool :=
  match runningCopy q, q.context with
  | some c, some x => decide (c.duration * 1000 ≤ x.stepTimer)
  | _, _ => false

/-- The stall timer stands at 900 s (R55). -/
def stallDue (q : Bsq) : Bool :=
  stallCounts q && (match q.context with | some x => decide (stallMs ≤ x.stallTimer) | none => false)

/-- The park timer stands at a limit whose event has not been taken (R69). -/
def parkDue (limit : ParkLimit) (q : Bsq) : Bool :=
  decide (q.state = .parking) &&
  (match limit with
    | .minimum => !q.parkMinTaken && decide (parkMinMs ≤ q.parkTimer)
    | .maximum => decide (parkMaxMs ≤ q.parkTimer))

/-- The timer events of one bay. -/
def bayEvents (s : State) (b : Bay) : List (Bool × Instr) :=
  [(stepDue (s.bsq.get b), .stepDurationExpiry b), (stallDue (s.bsq.get b), .stall b),
    (parkDue .maximum (s.bsq.get b), .parkTimer b .maximum), (parkDue .minimum (s.bsq.get b), .parkTimer b .minimum)]

/-- The link's events (R171, R178), those of start-up and settling (R181, R186). -/
def frontEvents (s : State) : List (Bool × Instr) :=
  [(s.pli.tx.isSome, .responseSend), (gapRuns s, .idleGapExpiry),
    (decide (s.moc.phase = .startUp) && decide (startUpMs ≤ s.moc.timer), .startupEnd),
    (decide (s.moc.phase = .settling) && decide (settlingMs ≤ s.moc.timer), .wakeSettlingEnd)]

/-- The readers that have not taken the last publication (R92). -/
def publicationEvents (s : State) : List (Bool × Instr) :=
  [(s.untaken.blc, .steamYield), (s.untaken.alc, .heaterDriveUpdate)] ++
  Bay.all.map fun b => (s.untaken.bsq.get b, .noPowerReevaluation b)

/-- The boiler's timers, presence windows, the commit and the round. A commit check passes or fails by a free value
(log 7). -/
def backEvents (s : State) : List (Bool × Instr) :=
  [(decide (s.blc.state = .fill) && decide (fillMs ≤ s.blc.fillTimer), .fillTimeout),
    (cooldownCounts s && decide (cooldownMs ≤ s.blc.idleTimer), .idleCooldown)] ++
  (allMasters.map fun m => (windowRuns m s && decide (windowMs m ≤ (masterState m s).window), .presenceExpiry m)) ++
  [(decide (s.pts.phase ≠ .idle) && decide (commitPhaseMs s.pts.phase ≤ s.pts.phaseTimer),
      .commitPhaseEnd (Config.storeReadsBack s.freeCount)),
    (roundsRun s && decide (roundMs ≤ s.pae.roundTimer), .allotmentRound)]

/-- The first event of a list that is due. -/
def firstDue : List (Bool × Instr) → Option Instr
  | [] => none
  | (due, c) :: rest => if due then some c else firstDue rest

/-- The event to be taken on an empty queue, if one is due (log 3). -/
def dueCommand (s : State) : Option Instr :=
  match firstDue (frontEvents s) with
  | some c => some c
  | none =>
    match dueSample s with
    | some c => some c
    | none => firstDue (publicationEvents s ++ Bay.all.flatMap (bayEvents s) ++ backEvents s)

/-- A commit phase that ends by itself uses a free value (log 7). -/
def spendFree (c : Instr) (s : State) : State :=
  match c with
  | .commitPhaseEnd _ => { s with freeCount := s.freeCount + 1 }
  | _ => s

/-! ### One millisecond -/

/-- Counts to a limit and stops there. -/
def countTo (limit n : Nat) : Nat := min limit (n + 1)

/-- A bay's step, held, stall and park timers (R53, R54, R68). -/
def tickBay (q : Bsq) : Bsq :=
  match q.state with
  | .running => { q with context := q.context.map fun x => { x with stepTimer := x.stepTimer + 1 } }
  | .waiting => { q with context := q.context.map fun x => { x with heldTime := countTo heldMs x.heldTime } }
  | .held =>
    { q with context := q.context.map fun x =>
        { x with
          heldTime := countTo heldMs x.heldTime
          stallTimer := if hasPlantReason q.holds then countTo stallMs x.stallTimer else x.stallTimer } }
  | .parking => { q with parkTimer := countTo parkMaxMs q.parkTimer }
  | _ => q

/-- The compressor's timers (R80) and the round timer (R72). -/
def tickPae (s : State) : Pae :=
  { s.pae with
    roundTimer := if roundsRun s then countTo roundMs s.pae.roundTimer else s.pae.roundTimer
    minOn := if s.pae.compressorOn then countTo minOnMs s.pae.minOn else s.pae.minOn
    minOff := if s.pae.compressorOn then s.pae.minOff else countTo minOffMs s.pae.minOff }

/-- The boiler's timers (R99, R105). -/
def tickBlc (s : State) : Blc :=
  { s.blc with
    fillTimer := if s.blc.state = .fill then countTo fillMs s.blc.fillTimer else s.blc.fillTimer
    idleTimer := if cooldownCounts s then countTo cooldownMs s.blc.idleTimer else s.blc.idleTimer }

/-- A sample timer that has counted a period: it restarts (R131). -/
def wrapTimer (period n : Nat) : Nat := if period ≤ n + 1 then 0 else n + 1

/-- The sample timers, and the samples of an expiry (R131). -/
def tickSnu (s : State) : Snu :=
  if samplesRun s then
    { s.snu with
      switchTimer := wrapTimer switchSampleMs s.snu.switchTimer
      analogTimer := wrapTimer analogSampleMs s.snu.analogTimer
      switchDue := if switchSampleMs ≤ s.snu.switchTimer + 1 then sampledSwitches s else s.snu.switchDue
      analogDue := if analogSampleMs ≤ s.snu.analogTimer + 1 then sampledChannels s else s.snu.analogDue }
  else s.snu

/-- A master's presence window timer (R174). -/
def tickMaster (m : Master) (s : State) : MasterState :=
  let x := masterState m s
  if windowRuns m s then { x with window := countTo (windowMs m) x.window } else x

/-- The start-up and settling timer (R181, R186). -/
def tickMoc (x : Moc) : Moc :=
  match x.phase with
  | .startUp => { x with timer := countTo startUpMs x.timer }
  | .settling => { x with timer := countTo settlingMs x.timer }
  | _ => x

/-- The commit's phase timer (R163). -/
def tickPts (p : Pts) : Pts :=
  if p.phase = .idle then p else { p with phaseTimer := countTo (commitPhaseMs p.phase) p.phaseTimer }

/-- One millisecond passes: every timer that counts advances. -/
def tick (s : State) : State :=
  { s with
    moc := tickMoc s.moc
    supervisor := tickMaster .supervisor s
    panels := PerBay.ofFn fun b => tickMaster (.panel b) s
    bsq := s.bsq.map tickBay
    pae := tickPae s
    blc := tickBlc s
    snu := tickSnu s
    pts := tickPts s.pts }

end Sys2Proof.Machine
end

