-- ==== Sys2Proof/Safety.lean ====
section
/-! DEFINITION. What the manual lays down as laws of the device, as properties of a state; a safe run keeps them (R39, R46, R76,
R94, R106, R108, R110, R115, R125, R144, R154). -/

namespace Sys2Proof.Machine

/-- A property of the state holds after whatever a step answers: no step of this model stops. -/
def KeptByStep (law : State → Prop) : Prop :=
  ∀ s t : State, law s → step s = .next t → law t

/-- The part takes frames: the plant mode is RUN or STANDBY (R180). -/
def Awake (s : State) : Prop := s.moc.phase = .run ∨ s.moc.phase = .standby

/-- Commands taken one after the other, stopping at the first that does not answer a next state. -/
def execAll : List Instr → State → Host.Outcome State Fault Refusal
  | [], s => .next s
  | c :: rest, s =>
    match exec c s with
    | .next t => execAll rest t
    | .fault f => .fault f
    | .refused r => .refused r

/-! ### Events and masters -/

/-- A line is asserted exactly when pending set and mask have an event in common (R154). -/
def LineFollows (m : MasterState) : Prop := m.line = true ↔ m.pending &&& m.mask ≠ 0#16

/-- The attention-line law of all five masters (R154). -/
def LineLaw (s : State) : Prop := LineFollows s.supervisor ∧ ∀ b, LineFollows (s.panels.get b)

/-- What an unfitted bay holds: no sequencer, no pending event, no mask, no line, no presence, empty rings (R23, R39, R143,
R149, R173). -/
def UnfittedLaw (s : State) : Prop :=
  ∀ b, s.fitted.get b = false →
    (s.bsq.get b).state = .absent ∧ (s.panels.get b).pending = 0#16 ∧ (s.panels.get b).mask = 0#16 ∧
    (s.panels.get b).line = false ∧ (s.panels.get b).present = false ∧ (s.srs.get b).records = [] ∧
    (s.oau.get b).records = []

/-! ### Bays -/

/-- An admitted program is present in WAITING, RUNNING and HELD, may be in PARKING and then has a pending result, and is
absent elsewhere; the hold-reason set is empty but in HELD (R39, R42, R46). -/
def BayLaw (q : Bsq) : Prop :=
  (q.state = .held ↔ q.holds ≠ HoldSet.empty) ∧
  (inProgress q = true → q.context.isSome = true) ∧
  (q.state = .parking → ∀ x, q.context = some x → x.pendingResult ≠ none) ∧
  (q.state = .idle ∨ q.state = .faulted ∨ q.state = .absent → q.context = none)

/-- The law of every bay. -/
def BaysLaw (s : State) : Prop := ∀ b, BayLaw (s.bsq.get b)

/-- The copies of a context are one for each step, and its index names one of them (R14, R42). -/
def CopiesLaw (q : Bsq) : Prop :=
  ∀ x, q.context = some x → x.copies.length = x.stepCount ∧ x.index < x.stepCount

/-- A step ring holds as many records as its counts say, at most sixteen, and the admitted part is what is left of the
admitted program (R21, R22, R28). -/
def RingLaw (b : Bay) (s : State) : Prop :=
  (s.srs.get b).records.length ≤ ringPlaces ∧
  (s.srs.get b).p = (s.srs.get b).c + BitVec.ofNat 8 (s.srs.get b).records.length ∧
  (s.srs.get b).admitted ≤ (s.srs.get b).records.length ∧
  match (s.bsq.get b).context with
  | some x => x.index < x.stepCount ∧ (s.srs.get b).admitted = x.stepCount - x.index
  | none => (s.srs.get b).admitted = 0

/-- The law of every step ring. -/
def RingsLaw (s : State) : Prop := ∀ b, RingLaw b s

/-- An outcome ring holds as many records as its counts say (R143). -/
def OutcomeCounts (o : OutcomeRing) : Prop := o.q = o.f + BitVec.ofNat 8 o.records.length

/-- The counts of every outcome ring. -/
def OutcomesLaw (s : State) : Prop := ∀ b, OutcomeCounts (s.oau.get b)

/-- A started step that is not final and carries NOTIFY (R59, R144). -/
def notifyStarted (b : Bay) (s : State) : Bool :=
  match startedCopy (s.bsq.get b), (s.bsq.get b).context with
  | some _, some x => headNotify b s && !isFinalStep x
  | _, _ => false

/-- Records, reservation and promise together are at most eight; a program in progress has its reservation and a started
NOTIFY step its promise (R144). -/
def EntriesLaw (s : State) : Prop :=
  ∀ b, (s.oau.get b).records.length + (s.oau.get b).reservation.toNat + (s.oau.get b).promise.toNat ≤ outcomePlaces ∧
    ((s.bsq.get b).context.isSome = true → (s.oau.get b).reservation = true) ∧
    (notifyStarted b s = true → (s.oau.get b).promise = true)

/-! ### Power -/

/-- B is a multiple of 10 W in 800 to 3600 W, and E follows it (R74, R75). -/
def BudgetLaw (s : State) : Prop :=
  800 ≤ s.pae.budget ∧ s.pae.budget ≤ 3600 ∧ s.pae.budget % 10 = 0 ∧
  s.pae.effective = effectiveBudget s.supervisor.present s.pae.budget

/-- The totals of the grant table are the sums of its entries (R92, R94). -/
def TotalsLaw (s : State) : Prop :=
  s.pae.grants.class0 = s.pae.grants.fan.sum + s.pae.grants.osc.sum + s.pae.grants.pump ∧
  s.pae.grants.class1 = s.pae.grants.compressor ∧
  s.pae.grants.class2 = s.pae.grants.boiler + s.pae.grants.aux.sum

/-- Drive and grant of the compressor follow its run state, and it runs only in RUN with the condensate tank not full (R80,
R84, R125). -/
def CompressorLaw (s : State) : Prop :=
  s.alc.compressorDrive = s.pae.compressorOn ∧
  s.pae.grants.compressor = (if s.pae.compressorOn then compressorWatts else 0) ∧
  (s.pae.compressorOn = true → s.moc.phase = .run ∧ s.snu.condFull.filtered = false)

/-! ### Boiler -/

/-- The boiler is COLD or LOCKED outside RUN, and a lock has a cause (R106, R108). -/
def BoilerRestLaw (s : State) : Prop :=
  (s.moc.phase ≠ .run → s.blc.state = .cold ∨ s.blc.state = .locked) ∧
  (s.blc.state = .locked ↔ s.blc.cause ≠ .none)

/-- The steam carry is below 2257 and is 0 unless the boiler is READY (R110). -/
def CarryLaw (s : State) : Prop := s.blc.carry < steamHeat ∧ (s.blc.state ≠ .ready → s.blc.carry = 0)

/-- The boiler heater grant is 0 unless the boiler is in HEAT or READY (R94). -/
def BoilerGrantLaw (s : State) : Prop := isHot s.blc.state = false → s.pae.grants.boiler = 0

/-- A steam valve stands open exactly when R115 has it open. -/
def ValveLaw (s : State) : Prop := ∀ b, s.blc.valves.get b = valveOpen b s

/-! ### Air -/

/-- Fan levels are 0 to 8 wherever one is held or may come from (R78, R116, R157, R188). -/
def ProfileFans (t : ProfileTable) : Prop := ∀ (i : Fin 16) (p : Profile), t[i] = some p → p.maxFan ≤ 8

/-- The fan level of every bay is 0 to 8 (R116). -/
def FanLaw (s : State) : Prop :=
  (∀ b, (s.alc.bays.get b).fan.driven ≤ 8 ∧ (s.alc.bays.get b).fan.service ≤ 8) ∧
  (∀ b x, (s.bsq.get b).context = some x → ∀ c ∈ x.copies, c.fanCeiling ≤ 8) ∧
  ProfileFans s.pts.table ∧
  (∀ t, s.pts.snapshot = some t → ProfileFans t) ∧
  (∀ t, s.pts.store = some t → ProfileFans t)

/-- The auxiliary heater demand is that of R89 and R122; grant and drive are 0 W unless the bay is RUNNING with its
temperature channel VALID and below the step's limit (R94, R123). -/
def HeaterLaw (s : State) : Prop :=
  ∀ b, (s.alc.bays.get b).demand = auxDemand b s ∧
    (((s.bsq.get b).state ≠ .running ∨ (s.snu.temps.get b).state ≠ .valid ∨
        atLimit b (s.snu.temps.get b) s = true) →
      s.pae.grants.aux.get b = 0 ∧ (s.alc.bays.get b).drive = 0)

/-- No bay has a started step while the part starts up, sleeps or settles (R181, R185, R186). -/
def AsleepLaw (s : State) : Prop :=
  s.moc.phase = .startUp ∨ s.moc.phase = .sleep ∨ s.moc.phase = .settling →
    ∀ b, inProgress (s.bsq.get b) = false

/-! ### What the occasions that set state afresh leave -/

/-- Every filtered switch stands at its safe-assumed level, unconfirmed, and every channel is UNKNOWN; what stands at the
pins is as it was (R134, R139). -/
def InputsAfresh (s t : State) : Prop :=
  (∀ b, t.snu.fronts.get b = ⟨(s.snu.fronts.get b).pin, true, true, 0, false⟩) ∧
  t.snu.boilerWaterOk = ⟨s.snu.boilerWaterOk.pin, false, false, 0, false⟩ ∧
  t.snu.boilerCutout = ⟨s.snu.boilerCutout.pin, true, true, 0, false⟩ ∧
  t.snu.freshLow = ⟨s.snu.freshLow.pin, true, true, 0, false⟩ ∧
  t.snu.freshEmpty = ⟨s.snu.freshEmpty.pin, true, true, 0, false⟩ ∧
  t.snu.condFull = ⟨s.snu.condFull.pin, true, true, 0, false⟩ ∧
  (∀ b, t.snu.temps.get b = ⟨(s.snu.temps.get b).pin, .unknown, none, none, 0, 0⟩) ∧
  (∀ b, t.snu.hums.get b = ⟨(s.snu.hums.get b).pin, .unknown, none, none, 0, 0⟩) ∧
  t.snu.boilerTemp = ⟨s.snu.boilerTemp.pin, .unknown, none, none, 0, 0⟩ ∧
  t.snu.switchTimer = 0 ∧ t.snu.analogTimer = 0

/-- What a power-on or pin reset leaves of the link and of each master and bay (R23, R41, R143, R150, R174, R181). -/
def MastersAfresh (straps : Straps) (t : State) : Prop :=
  t.fitted = straps.fitted ∧ t.pli.fastRate = straps.fastRate ∧ t.pli.rx = .hunt ∧ t.pli.tx = none ∧
  t.supervisor = ⟨false, 0, 0x0001#16, 0x0FFF#16, true⟩ ∧
  ∀ b,
    t.panels.get b = (if straps.fitted.get b then ⟨false, 0, 0x0008#16, 0x000F#16, true⟩ else ⟨false, 0, 0, 0, false⟩) ∧
    t.srs.get b = ⟨[], 0, 0, 0, 0⟩ ∧ t.oau.get b = ⟨[], 0, 0, false, false⟩ ∧
    (t.bsq.get b).state = (if straps.fitted.get b then .idle else .absent) ∧ (t.bsq.get b).context = none ∧
    (t.bsq.get b).holds = HoldSet.empty ∧ (t.bsq.get b).parkTimer = 0 ∧ (t.bsq.get b).faultAfterPark = false ∧
    (t.bsq.get b).admission = 0

/-- What a power-on or pin reset leaves of the plant: every output inactive (R73, R80, R96, R117, R181, R182). -/
def PlantAfresh (t : State) : Prop :=
  t.moc.phase = .startUp ∧ t.moc.timer = 0 ∧ t.moc.pumpMode = .auto ∧ t.moc.pumpValue = false ∧
  t.pae = ⟨0, 2000, 1500, GrantTable.zero, false, 0, 0, false⟩ ∧
  t.blc = ⟨.cold, .none, 0, 0, 0, .b0, 0, PerBay.fill 0, 0, PerBay.fill false, false, 0⟩ ∧
  t.alc.compressorDrive = false ∧
  ∀ b, t.alc.bays.get b = ⟨⟨0, .auto, 0, false⟩, ⟨.closed, .auto, .closed, false⟩, ⟨0, .auto, 0, false⟩, 0, 0⟩

/-- What the load at a start-up leaves of the profile table and store (R158, R166, R167). -/
def TableAfresh (s t : State) : Prop :=
  t.pts.phase = .idle ∧ t.pts.lastResult = .none ∧ t.pts.snapshot = none ∧ t.pts.reErased = false ∧
  t.pts.rewritten = false ∧ t.pts.store = s.pts.store ∧ t.pts.marker = s.pts.marker ∧
  (s.pts.marker = true → t.pts.dirty = false ∧ t.pts.storeInvalid = false ∧
    ∀ p, s.pts.store = some p → t.pts.table = p) ∧
  (s.pts.marker = false → t.pts.dirty = true ∧ t.pts.storeInvalid = true ∧ t.pts.table = ProfileTable.factory)

/-- The state of a safe run: every law holds. -/
def Safe (s : State) : Prop :=
  LineLaw s ∧ UnfittedLaw s ∧ BaysLaw s ∧ RingsLaw s ∧ OutcomesLaw s ∧ BudgetLaw s ∧ TotalsLaw s ∧ CompressorLaw s ∧
  BoilerRestLaw s ∧ CarryLaw s ∧ BoilerGrantLaw s ∧ ValveLaw s ∧ FanLaw s ∧ HeaterLaw s ∧ AsleepLaw s ∧ EntriesLaw s ∧
  ∀ b, CopiesLaw (s.bsq.get b)

end Sys2Proof.Machine
end

