-- ==== Sys2Proof/Certificates/Slice0/Obligations.lean ====
section
/-! DEFINITION. The statements for the provers, each a proposition about the model. -/

open Sys2Proof Sys2Proof.Machine

/-! ### The machine -/

/-- With a command at the front of the queue, a step is that command's effect on the state with the rest of the queue. -/
def Obligations.StepRunsTheFrontCommand : Prop :=
  ∀ (c : Instr) (rest : List Instr) (s : State),
    step { s with pending := c :: rest } = exec c { s with pending := rest }

/-- The model's choice (logs 1 and 3): a step on an empty queue takes the due event, or lets 1 ms pass, which moves timers
and the samples that fall due and nothing else. That min-on and min-off keep their values while they do not count is log 18. -/
def Obligations.EmptyQueueTakesDueEventOrCountsTimers : Prop :=
  ∀ s : State, s.pending = [] →
    (∀ c, dueCommand s = some c → step s = exec c (spendFree c s)) ∧
    (dueCommand s = none → ∃ t, step s = .next t ∧
      t.pending = [] ∧ t.fitted = s.fitted ∧ t.pli = s.pli ∧ t.srs = s.srs ∧ t.oau = s.oau ∧ t.alc = s.alc ∧
      t.untaken = s.untaken ∧ t.freeCount = s.freeCount ∧ t.moc = { s.moc with timer := t.moc.timer } ∧
      t.bsq = s.bsq.map tickBay ∧
      t.pae = { s.pae with
        roundTimer := t.pae.roundTimer
        minOn := if s.pae.compressorOn then min 60000 (s.pae.minOn + 1) else s.pae.minOn
        minOff := if s.pae.compressorOn then s.pae.minOff else min 120000 (s.pae.minOff + 1) } ∧
      t.blc = { s.blc with fillTimer := t.blc.fillTimer, idleTimer := t.blc.idleTimer } ∧
      t.snu = { s.snu with
        switchTimer := t.snu.switchTimer, analogTimer := t.snu.analogTimer
        switchDue := t.snu.switchDue, analogDue := t.snu.analogDue } ∧
      t.pts = { s.pts with phaseTimer := t.pts.phaseTimer } ∧
      (∀ m, masterState m t = { masterState m s with window := (masterState m t).window }) ∧
      ∀ b,
        let q := s.bsq.get b
        ((t.bsq.get b).parkTimer = if q.state = .parking then min 180000 (q.parkTimer + 1) else q.parkTimer) ∧
        (q.context = none → (t.bsq.get b).context = none) ∧
        ∀ x, q.context = some x → (t.bsq.get b).context = some { x with
          stepTimer := if q.state = .running then x.stepTimer + 1 else x.stepTimer
          heldTime := if q.state = .waiting ∨ q.state = .held then min 65535000 (x.heldTime + 1) else x.heldTime
          stallTimer :=
            if q.state = .held ∧ (q.holds.noSteam || q.holds.noPower || q.holds.tankFull || q.holds.plantStandby) = true
            then min 900000 (x.stallTimer + 1) else x.stallTimer })

/-! ### Resets, wake and modes -/

/-- Power-on and pin reset read the straps and set every block afresh; they differ in the reset cause alone, and the store
and what stands at the pins outlive them. That the table is loaded in the reset event, and that a waiting response is discarded,
are the model's readings (logs 19 and 20). -/
def Obligations.ResetsSetEveryBlockAfresh : Prop :=
  ∀ (straps : Straps) (s : State),
    (∃ t, exec (.powerOnReset straps) s = .next t ∧ t.moc.resetCause = .powerOn ∧ t.pending = s.pending ∧
      MastersAfresh straps t ∧ PlantAfresh t ∧ InputsAfresh s t ∧ TableAfresh s t) ∧
    (∃ t, exec (.pinReset straps) s = .next t ∧ t.moc.resetCause = .pin ∧ t.pending = s.pending ∧
      MastersAfresh straps t ∧ PlantAfresh t ∧ InputsAfresh s t ∧ TableAfresh s t)

/-- Every law of a safe run holds right after reset. -/
def Obligations.ResetStateIsSafe : Prop := Safe State.reset

/-- Start-up ends in RUN with the round timer from 0 and frame assembly in HUNT; elsewhere the end has no effect. -/
def Obligations.StartupEndsInRun : Prop :=
  ∀ s : State,
    (s.moc.phase = .startUp → exec .startupEnd s = .next
      { s with
        moc := { s.moc with phase := .run, timer := 30 }
        pae := { s.pae with roundTimer := 0 }
        pli := { s.pli with rx := .hunt } }) ∧
    (s.moc.phase ≠ .startUp → exec .startupEnd s = .next s)

/-- WAKE, and any character received as an address 0x40 without a framing error, wakes a sleeping part: settling begins,
inputs and presence are set afresh, E falls to min(B, 1500 W), the re-erase and rewrite indications are cleared, and the
frame is skipped. -/
def Obligations.WakeSetsInputsAndPresenceAfresh : Prop :=
  ∀ s : State, s.moc.phase = .sleep → s.pli.tx = none →
    (∃ t, exec .wake s = .next t ∧
      (∀ (cs : CharSamples) (x : RxChar), receiveChar cs = some x → x.mark = true → x.framing = false →
        x.byte = 0x40#8 → exec (.linkCharacter cs) s = .next t) ∧
      t.moc = { s.moc with phase := .settling, timer := 0 } ∧ t.pli = { s.pli with rx := .skip } ∧
      InputsAfresh s t ∧ t.supervisor = { s.supervisor with present := false, window := 0 } ∧
      (∀ b, t.panels.get b = { s.panels.get b with present := false, window := 0 }) ∧
      t.pae = { s.pae with effective := min s.pae.budget 1500, minOn := 0 } ∧
      t.pending = s.pending ∧ t.fitted = s.fitted ∧ t.srs = s.srs ∧ t.bsq = s.bsq ∧ t.oau = s.oau ∧
      t.untaken = s.untaken ∧ t.blc = s.blc ∧ t.alc = s.alc ∧
      t.pts = { s.pts with reErased := false, rewritten := false } ∧ t.freeCount = s.freeCount)

/-- In SLEEP every other character is ignored; start-up takes none; in settling an address character only moves the
receiver to SKIP. -/
def Obligations.CharactersOutsideRunningOnlyWakeOrSkip : Prop :=
  ∀ (cs : CharSamples) (x : RxChar) (s : State), receiveChar cs = some x →
    (s.moc.phase = .startUp → exec (.linkCharacter cs) s = .next s) ∧
    (s.moc.phase = .sleep → s.pli.tx = none → (x.mark = false ∨ x.framing = true ∨ x.byte ≠ 0x40#8) →
      exec (.linkCharacter cs) s = .next s) ∧
    (s.moc.phase = .settling → x.mark = true → x.framing = false →
      exec (.linkCharacter cs) s = .next { s with pli := { s.pli with rx := .skip } }) ∧
    (s.moc.phase = .settling → x.mark = false → x.framing = false → exec (.linkCharacter cs) s = .next s)

/-- Wake settling ends in STANDBY, with the round timer from 0 and WOKE raised at the supervisor; elsewhere its end has no
effect. -/
def Obligations.SettlingEndsInStandbyWithWoke : Prop :=
  ∀ s : State,
    (s.moc.phase = .settling → exec .wakeSettlingEnd s = .next
      { s with
        moc := { s.moc with phase := .standby, timer := 20 }
        pae := { s.pae with roundTimer := 0 }
        supervisor := { s.supervisor with
          pending := s.supervisor.pending ||| 0x0800#16
          line := (s.supervisor.pending ||| 0x0800#16) &&& s.supervisor.mask != 0#16 } }) ∧
    (s.moc.phase ≠ .settling → exec .wakeSettlingEnd s = .next s)

/-- PLANT_MODE for the mode the part is in is ACKed and changes nothing, SLEEP is refused from RUN, and refused from STANDBY
while a condition of R185 fails. -/
def Obligations.PlantModeRequestsWithoutEffect : Prop :=
  ∀ (noise : Bool) (s : State),
    (s.moc.phase = .run → exec (.plantModeRun .supervisor noise) s = .next
      (respond .supervisor 0x12#8 noise ⟨.ack, [0x00#8]⟩ (heard .supervisor s))) ∧
    (s.moc.phase = .standby → exec (.plantModeStandby .supervisor noise) s = .next
      (respond .supervisor 0x12#8 noise ⟨.ack, [0x01#8]⟩ (heard .supervisor s))) ∧
    (s.moc.phase = .run → exec (.plantModeSleep .supervisor noise) s = .next
      (respond .supervisor 0x12#8 noise ⟨.nak .badState, [0x00#8]⟩ (heard .supervisor s))) ∧
    (s.moc.phase = .standby →
      ((∃ b, inProgress (s.bsq.get b) = true ∨ (s.bsq.get b).state = .parking ∨ queuedPrograms (s.srs.get b) ≠ 0) ∨
        s.pts.phase ≠ .idle) →
      exec (.plantModeSleep .supervisor noise) s = .next
        (respond .supervisor 0x12#8 noise ⟨.nak .badState, [0x01#8]⟩ (heard .supervisor s)))

/-- PLANT_MODE for STANDBY taken in RUN: every started step is HELD under PLANT_STANDBY, the boiler goes to COLD unless it is
LOCKED, the compressor is off, and rings, inputs and profiles are untouched. -/
def Obligations.StandbyHoldsStepsAndStopsThePlant : Prop :=
  ∀ (noise : Bool) (s : State), BaysLaw s → s.moc.phase = .run →
    ∃ t, exec (.plantModeStandby .supervisor noise) s = .next t ∧
      t.moc = { s.moc with phase := .standby } ∧
      t.pli.tx = some ⟨.supervisor, 0x12#8, .ack, noise, [0x01#8]⟩ ∧
      (∀ b, (startedCopy (s.bsq.get b)).isSome = true →
        (t.bsq.get b).state = .held ∧ (t.bsq.get b).holds.plantStandby = true) ∧
      (∀ b, startedCopy (s.bsq.get b) = none → t.bsq.get b = s.bsq.get b) ∧
      t.blc.state = (if s.blc.state = .locked then .locked else .cold) ∧
      t.pae.compressorOn = false ∧
      (s.pae.compressorOn = true →
        t.pae.minOff = 0 ∧ t.pae.grants.compressor = 0 ∧ t.alc.compressorDrive = false) ∧
      (s.pae.compressorOn = false → t.pae.minOff = s.pae.minOff) ∧
      t.pae.budget = s.pae.budget ∧ t.pae.roundTimer = s.pae.roundTimer ∧ t.pae.shed = s.pae.shed ∧
      t.pending = s.pending ∧ t.fitted = s.fitted ∧ t.srs = s.srs ∧ t.oau = s.oau ∧ t.snu = s.snu ∧ t.pts = s.pts ∧
      t.untaken = s.untaken ∧ t.freeCount = s.freeCount

/-- PLANT_MODE for RUN taken in STANDBY: no started step is held under PLANT_STANDBY any more, the compressor is not started by the
change, and inputs and profiles are untouched. -/
def Obligations.RunReleasesHeldSteps : Prop :=
  ∀ (noise : Bool) (s : State), BaysLaw s → s.moc.phase = .standby →
    ∃ t, exec (.plantModeRun .supervisor noise) s = .next t ∧
      t.moc = { s.moc with phase := .run } ∧
      t.pli.tx = some ⟨.supervisor, 0x12#8, .ack, noise, [0x00#8]⟩ ∧
      (∀ b, (startedCopy (s.bsq.get b)).isSome = true → (t.bsq.get b).holds.plantStandby = false ∧
        ((t.bsq.get b).state = .running ↔ (t.bsq.get b).holds = HoldSet.empty)) ∧
      t.pae.compressorOn = s.pae.compressorOn ∧ t.pae.minOff = s.pae.minOff ∧ t.pae.budget = s.pae.budget ∧
      t.pending = s.pending ∧ t.fitted = s.fitted ∧ t.snu = s.snu ∧ t.pts = s.pts ∧ t.freeCount = s.freeCount

/-- PLANT_MODE for SLEEP taken in STANDBY with every condition of R185: every plant output is inactive and in AUTO, the grant
table is 0, and rings, sets, masks, admission numbers, profiles, B, boiler state and inputs are kept. That the samples
still due are dropped and an ON compressor turns OFF is the model's reading (log 24). -/
def Obligations.SleepStopsEveryOutputAndKeepsTheRest : Prop :=
  ∀ (noise : Bool) (s : State), s.moc.phase = .standby →
    (∀ b, ((s.bsq.get b).state = .idle ∨ (s.bsq.get b).state = .absent ∨ (s.bsq.get b).state = .faulted) ∧
      queuedPrograms (s.srs.get b) = 0) → s.pts.phase = .idle →
    ∃ t, exec (.plantModeSleep .supervisor noise) s = .next t ∧
      t.moc = { s.moc with phase := .sleep, pumpMode := .auto } ∧
      t.pli.tx = some ⟨.supervisor, 0x12#8, .ack, noise, [0x02#8]⟩ ∧
      t.pae.grants = GrantTable.zero ∧ t.pae.compressorOn = false ∧ t.pae.budget = s.pae.budget ∧
      t.alc.compressorDrive = false ∧
      (∀ b, (t.alc.bays.get b).fan = ⟨0, .auto, (s.alc.bays.get b).fan.service, false⟩ ∧
        (t.alc.bays.get b).damper = ⟨.closed, .auto, (s.alc.bays.get b).damper.service, false⟩ ∧
        (t.alc.bays.get b).osc = ⟨0, .auto, (s.alc.bays.get b).osc.service, false⟩ ∧
        (t.alc.bays.get b).demand = 0 ∧ (t.alc.bays.get b).drive = 0) ∧
      t.blc = { s.blc with
        fillTimer := 0, idleTimer := 0, carry := 0, lastYield := 0, credits := PerBay.fill 0
        valves := PerBay.fill false, pumpDrive := false, heaterDrive := 0 } ∧
      t.srs = s.srs ∧ t.bsq = s.bsq ∧ t.oau = s.oau ∧ t.panels = s.panels ∧
      t.supervisor.pending = s.supervisor.pending ∧ t.supervisor.mask = s.supervisor.mask ∧
      t.snu = { s.snu with switchDue := [], analogDue := [] } ∧ t.pts = s.pts ∧ t.fitted = s.fitted ∧
      t.pending = s.pending ∧ t.freeCount = s.freeCount

/-- WARM_RESTART: what each block clears and keeps (the table of R187). -/
def Obligations.WarmRestartClearsAndKeeps : Prop :=
  ∀ (noise : Bool) (s : State), Awake s →
    ∃ t, exec (.warmRestart .supervisor noise) s = .next t ∧
      t.moc = { s.moc with resetCause := .warm, pumpMode := .auto } ∧
      t.pli = { s.pli with
        rx := .hunt, tx := some ⟨.supervisor, 0x13#8, .ack, noise, [0x02#8, modeCode s.moc.phase]⟩ } ∧
      t.supervisor.present = true ∧ t.supervisor.pending = 0x0001#16 ∧ t.supervisor.mask = s.supervisor.mask ∧
      (∀ b,
        t.srs.get b = ⟨[], 0, 0, 0, 0⟩ ∧ t.oau.get b = ⟨[], 0, 0, false, false⟩ ∧
        (t.bsq.get b).context = none ∧ (t.bsq.get b).holds = HoldSet.empty ∧
        (t.bsq.get b).admission = (s.bsq.get b).admission ∧
        (t.bsq.get b).faultAfterPark = (s.bsq.get b).faultAfterPark ∧
        (inProgress (s.bsq.get b) = true →
          (t.bsq.get b).state = .parking ∧ (t.bsq.get b).parkTimer = 0 ∧ (t.alc.bays.get b).fan.driven = 8 ∧
          (t.alc.bays.get b).damper.driven = .opened ∧ (t.alc.bays.get b).osc.driven = 0) ∧
        (inProgress (s.bsq.get b) = false →
          (t.bsq.get b).state = (s.bsq.get b).state ∧ (t.bsq.get b).parkTimer = (s.bsq.get b).parkTimer) ∧
        (t.alc.bays.get b).fan.mode = .auto ∧ (t.alc.bays.get b).damper.mode = .auto ∧
        (t.alc.bays.get b).osc.mode = .auto ∧ (t.alc.bays.get b).demand = 0 ∧ (t.alc.bays.get b).drive = 0 ∧
        t.pae.grants.aux.get b = 0 ∧ (t.panels.get b).mask = (s.panels.get b).mask ∧
        (t.panels.get b).present = (s.panels.get b).present ∧
        (s.fitted.get b = true → (t.panels.get b).pending = 0x0008#16)) ∧
      t.pae.budget = 2000 ∧ t.pae.effective = 2000 ∧ t.pae.compressorOn = false ∧ t.pae.minOn = 0 ∧
      t.pae.minOff = 0 ∧ t.pae.shed = false ∧ t.pae.roundTimer = s.pae.roundTimer ∧ t.pae.grants.boiler = 0 ∧
      t.pae.grants.compressor = 0 ∧ t.pae.grants.fan = s.pae.grants.fan ∧ t.pae.grants.osc = s.pae.grants.osc ∧
      t.pae.grants.pump = s.pae.grants.pump ∧ t.alc.compressorDrive = false ∧
      t.blc.state = (if s.blc.state = .locked then .locked else .cold) ∧ t.blc.cause = s.blc.cause ∧
      t.blc.carry = 0 ∧ t.blc.lastYield = 0 ∧ t.blc.pumpDrive = false ∧ t.blc.pointer = s.blc.pointer ∧
      t.blc.produced = s.blc.produced ∧
      t.snu = s.snu ∧ t.pts = s.pts ∧ t.fitted = s.fitted ∧ t.pending = s.pending ∧ t.freeCount = s.freeCount

/-- OUTPUT_SERVICE with mode SERVICE: an output of an IDLE or FAULTED bay, or the pump of a COLD, STARVED or LOCKED boiler, is
driven at the clamped value; in any other state the request is refused. That the pump's value in the ACK is 1 or 0 is
the model's choice (log 33). -/
def Obligations.ServiceDrivesTheClampedValue : Prop :=
  ∀ (noise : Bool) (index value : Byte) (b : Bay) (s : State), Awake s → s.fitted.get b = true →
    let h := heard .supervisor s
    let o := h.alc.bays.get b
    let answer := fun (v : Byte) (t : State) =>
      exec (.outputService .supervisor noise index value) s =
        .next (respond .supervisor 0x14#8 noise ⟨.ack, [index, 0x01#8, v]⟩ t)
    let refused := exec (.outputService .supervisor noise index value) s =
      .next (respond .supervisor 0x14#8 noise ⟨.nak .badState, []⟩ h)
    ((s.bsq.get b).state = .idle ∨ (s.bsq.get b).state = .faulted →
      (outputOf index = some (.fan b) →
        answer (BitVec.ofNat 8 (min 8 value.toNat))
          (setOutputs b { o with fan := ⟨min 8 value.toNat, .service, min 8 value.toNat, false⟩ } h)) ∧
      (outputOf index = some (.osc b) →
        answer (BitVec.ofNat 8 (min 120 value.toNat))
          (setOutputs b { o with osc := ⟨min 120 value.toNat, .service, min 120 value.toNat, false⟩ } h)) ∧
      (outputOf index = some (.damper b) → value = 0#8 →
        answer 0x00#8 (setOutputs b { o with damper := ⟨.closed, .service, .closed, false⟩ } h)) ∧
      (outputOf index = some (.damper b) → value ≠ 0#8 →
        answer 0x01#8 (setOutputs b { o with damper := ⟨.opened, .service, .opened, false⟩ } h))) ∧
    ((s.bsq.get b).state ≠ .idle → (s.bsq.get b).state ≠ .faulted →
      outputOf index = some (.fan b) ∨ outputOf index = some (.damper b) ∨ outputOf index = some (.osc b) → refused) ∧
    (index = 0x40#8 →
      (s.blc.state = .cold ∨ s.blc.state = .starved ∨ s.blc.state = .locked →
        answer (if value = 0#8 then 0#8 else 1#8)
          { h with
            moc := { h.moc with pumpMode := .service, pumpValue := decide (value ≠ 0#8) }
            blc := { h.blc with pumpDrive := decide (value ≠ 0#8) } }) ∧
      (s.blc.state = .fill ∨ s.blc.state = .heat ∨ s.blc.state = .ready → refused))

/-- OUTPUT_SERVICE with mode AUTO: an output in AUTO stays as it is; an output in SERVICE returns to AUTO, keeps its service
value, and is driven at its inactive level until the next publication; with no other output of its bay serviced, admission is
examined, and a program admitted drives the bay's outputs at their automatic values; the pump follows the boiler, which may
start or refill. That the ACK carries the kept service value, the pump's as 1 or 0, is the model's choice (logs 15 and 33). -/
def Obligations.AutoReturnsServicedOutputs : Prop :=
  ∀ (noise : Bool) (index value : Byte) (s : State), Awake s →
    let h := heard .supervisor s
    let answers := fun (v : Byte) (t : State) =>
      exec (.outputServiceAuto .supervisor noise index value) s =
        .next (respond .supervisor 0x14#8 noise ⟨.ack, [index, 0x00#8, v]⟩ t)
    let returns := fun (b : Bay) (v : Byte) (o : BayOutputs) =>
      let u := setOutputs b o h
      let t := if o.fan.mode = .auto ∧ o.damper.mode = .auto ∧ o.osc.mode = .auto then examineAdmission b u else u
      let q := t.bsq.get b
      answers v t ∧
      (q.admission = (s.bsq.get b).admission → q = s.bsq.get b ∧ t.alc.bays.get b = o) ∧
      (q.admission ≠ (s.bsq.get b).admission →
        (t.alc.bays.get b).fan = ⟨autoFan q, .auto, o.fan.service, false⟩ ∧
        (t.alc.bays.get b).damper = ⟨autoDamper q, .auto, o.damper.service, false⟩ ∧
        (t.alc.bays.get b).osc = ⟨autoOsc q, .auto, o.osc.service, false⟩)
    (∀ b, s.fitted.get b = true →
      let o := s.alc.bays.get b
      (outputOf index = some (.fan b) →
        (o.fan.mode = .auto → answers (BitVec.ofNat 8 o.fan.service) h) ∧
        (o.fan.mode = .service →
          returns b (BitVec.ofNat 8 o.fan.service) { o with fan := ⟨0, .auto, o.fan.service, true⟩ })) ∧
      (outputOf index = some (.damper b) →
        (o.damper.mode = .auto → answers (if o.damper.service = .closed then 0x00#8 else 0x01#8) h) ∧
        (o.damper.mode = .service →
          returns b (if o.damper.service = .closed then 0x00#8 else 0x01#8)
            { o with damper := ⟨.closed, .auto, o.damper.service, true⟩ })) ∧
      (outputOf index = some (.osc b) →
        (o.osc.mode = .auto → answers (BitVec.ofNat 8 o.osc.service) h) ∧
        (o.osc.mode = .service →
          returns b (BitVec.ofNat 8 o.osc.service) { o with osc := ⟨0, .auto, o.osc.service, true⟩ }))) ∧
    (index = 0x40#8 →
      let v := if s.moc.pumpValue then 0x01#8 else 0x00#8
      let towards : BoilerState := if s.snu.freshEmpty.filtered then .starved else .fill
      let started : BoilerState :=
        if s.snu.boilerWaterOk.filtered then if boilerTempIs (fun c => decide (102 ≤ c)) s then .ready else .heat
        else towards
      (s.moc.pumpMode = .auto → answers v h) ∧
      (s.moc.pumpMode = .service → ∃ t, answers v t ∧
        t.moc = { s.moc with pumpMode := .auto } ∧ (t.blc.pumpDrive = true ↔ t.blc.state = .fill) ∧
        (s.blc.state = .starved → t.blc.state = towards) ∧
        (s.blc.state = .cold → t.blc.state =
          if steamWanted s = true ∧ s.snu.boilerCutout.filtered = false ∧ s.snu.boilerTemp.state = .valid then started
          else .cold) ∧
        (s.blc.state ≠ .starved → s.blc.state ≠ .cold → t.blc.state = s.blc.state) ∧
        t.srs = s.srs ∧ t.oau = s.oau ∧ t.snu = s.snu ∧ t.pts = s.pts ∧ t.alc.compressorDrive = s.alc.compressorDrive))

/-! ### The plant link -/

/-- How a received character moves frame assembly while the part takes frames and no response waits (the table of R170, with
the discards of R171); a false start has no effect at all. -/
def Obligations.CharactersMoveFrameAssembly : Prop :=
  ∀ (cs : CharSamples) (s : State), Awake s → s.pli.tx = none →
    let rxTo := fun (rx : Rx) => { s with pli := { s.pli with rx := rx } }
    let opened := fun (x : RxChar) => if x.byte = 0x40#8 then Rx.header [] x.noise else Rx.skip
    (receiveChar cs = none → exec (.linkCharacter cs) s = .next s) ∧
    ∀ x, receiveChar cs = some x →
      (s.pli.rx = .hunt ∨ s.pli.rx = .skip → x.mark = true → x.framing = false →
        exec (.linkCharacter cs) s = .next (rxTo (opened x))) ∧
      (s.pli.rx = .hunt → x.mark = false ∨ x.framing = true → exec (.linkCharacter cs) s = .next s) ∧
      (s.pli.rx = .skip → x.isBreak = true → exec (.linkCharacter cs) s = .next (rxTo .hunt)) ∧
      (s.pli.rx = .skip → x.isBreak = false → x.mark = false ∨ x.framing = true →
        exec (.linkCharacter cs) s = .next s) ∧
      (assembling s.pli.rx = true →
        (x.isBreak = true → exec (.linkCharacter cs) s = .next (rxTo .hunt)) ∧
        (x.isBreak = false → x.framing = true → exec (.linkCharacter cs) s = .next (linkFault (rxTo .hunt))) ∧
        (x.framing = false → x.mark = true → exec (.linkCharacter cs) s = .next (linkFault (rxTo (opened x))))) ∧
      (x.framing = false → x.mark = false →
        (∀ got n, s.pli.rx = .header got n → got.length ≠ 2 →
          exec (.linkCharacter cs) s = .next (rxTo (.header (got ++ [x.byte]) (n || x.noise)))) ∧
        (∀ source kind n, s.pli.rx = .header [source, kind] n →
          exec (.linkCharacter cs) s = .next
            (if x.byte = 0#8 then rxTo (.check source kind [] none (n || x.noise))
             else if x.byte.toNat ≤ 48 then rxTo (.payload source kind x.byte.toNat [] (n || x.noise))
             else linkFault (rxTo .hunt))) ∧
        (∀ source kind len got n, s.pli.rx = .payload source kind len got n →
          exec (.linkCharacter cs) s = .next
            (if got.length + 1 < len then rxTo (.payload source kind len (got ++ [x.byte]) (n || x.noise))
             else rxTo (.check source kind (got ++ [x.byte]) none (n || x.noise)))) ∧
        (∀ source kind payload n, s.pli.rx = .check source kind payload none n →
          exec (.linkCharacter cs) s = .next (rxTo (.check source kind payload (some x.byte) (n || x.noise)))) ∧
        (∀ source kind payload high n, s.pli.rx = .check source kind payload (some high) n →
          exec (.linkCharacter cs) s = .next
            (if frameCrc 0x40#8 source kind payload = high ++ x.byte
             then acceptFrame source kind payload (n || x.noise) (rxTo .hunt)
             else linkFault (rxTo .hunt))))

/-- The characters of a frame, received without noise one after the other by a receiver in HUNT, leave exactly what accepting
that frame leaves: no byte of it is lost, and its own CRC is the one the part computes. -/
def Obligations.FrameSentInCharactersIsAccepted : Prop :=
  ∀ (source kind : Byte) (payload : List Byte) (s : State),
    Awake s → s.pli.tx = none → s.pli.rx = .hunt → payload.length ≤ 48 →
    execAll ((frameChars 0x40#8 source kind payload).map fun ch => .linkCharacter (cleanChar ch.mark ch.byte)) s =
      .next (acceptFrame source kind payload false s)

/-- A frame from a master whose kind and payload are those of a request is taken as that request, with every parameter at
every value. -/
def Obligations.RequestFrameIsTakenAsItsRequest : Prop :=
  ∀ (m : Master) (r : Request) (noise : Bool) (s : State), lengthOk r = true →
    parseRequest (reqKind r) (requestBytes r) = some r ∧
    acceptFrame (masterAddress m) (reqCode (reqKind r)) (requestBytes r) noise s = takeRequest m noise r s

/-- The CRC register fed with a sequence and then with that sequence's own CRC, high byte first, is 0; the nine ASCII digits
give 0x29B1. -/
def Obligations.CrcOfASequenceAndItsCrcIsZero : Prop :=
  (∀ bytes : List Byte, crc16 (bytes ++ halfBytes (crc16 bytes)) = 0#16) ∧
  crc16 [0x31#8, 0x32#8, 0x33#8, 0x34#8, 0x35#8, 0x36#8, 0x37#8, 0x38#8, 0x39#8] = 0x29B1#16

/-- The gap limit discards a frame in progress with LINK_FAULT and returns the receiver to HUNT; with no frame in progress, a
response waiting, or the part not taking frames, there is no gap to expire. A valid frame from none of the five masters is
dropped: nothing changes but the receiver, which is in HUNT (that a waiting response is left waiting
is the model's choice, log 31). -/
def Obligations.GapExpiryAndUnknownSourceAnswerNothing : Prop :=
  ∀ s : State,
    (Awake s → s.pli.tx = none → assembling s.pli.rx = true →
      exec .idleGapExpiry s = .next (linkFault { s with pli := { s.pli with rx := .hunt } })) ∧
    (¬ Awake s ∨ s.pli.tx ≠ none ∨ assembling s.pli.rx = false → exec .idleGapExpiry s = .next s) ∧
    ∀ (source kind : Byte) (payload : List Byte) (noise : Bool), Awake s → (∀ m, source ≠ masterAddress m) →
      exec (.unknownSourceFrame source kind payload noise) s = .next { s with pli := { s.pli with rx := .hunt } }

/-- The refusals common to all requests, in their order: the first check that fails decides the NAK, which carries no
payload and leaves the state as presence left it; a request that passes is performed by its owner. -/
def Obligations.CommonChecksDecideInOrder : Prop :=
  ∀ (m : Master) (kind : Byte) (payload : List Byte) (noise : Bool) (s : State), Awake s →
    let h := heard m s
    let taken := acceptFrame (masterAddress m) kind payload noise s
    let refused := fun (r : NakReason) => respond m kind noise ⟨.nak r, []⟩ h
    exec (.unknownKindRequest m kind payload noise) s = .next taken ∧
    (masterFitted m s = false →
      taken = respond m kind noise ⟨.nak .noBay, []⟩ { s with pli := { s.pli with rx := .hunt } }) ∧
    (masterFitted m s = true →
      (reqOfCode kind = none → taken = refused .kindUnknown) ∧
      ∀ k, reqOfCode kind = some k →
        (entitled m k = false → taken = refused .notPermitted) ∧
        (entitled m k = true →
          (parseRequest k payload = none → taken = refused .lengthBad) ∧
          ∀ r, parseRequest k payload = some r →
            (indexOk r = false → taken = refused .valueBad) ∧
            (indexOk r = true →
              (∀ b, bayNamed r = some b → h.fitted.get b = false → taken = refused .noBay) ∧
              (∀ b, bayNamed r = some b → h.fitted.get b = true → ownBay m b = false → taken = refused .notPermitted) ∧
              ((∀ b, bayNamed r = some b → h.fitted.get b = true ∧ ownBay m b = true) →
                taken = respond m kind noise (perform m r h).2 (perform m r h).1))))

/-- A valid frame makes its master PRESENT with its window from 0; a returning supervisor restores E to B, a returning bay
master has admission examined for its bay. -/
def Obligations.HeardMasterBecomesPresent : Prop :=
  ∀ s : State,
    (heard .supervisor s =
      { s with
        supervisor := { s.supervisor with present := true, window := 0 }
        pli := { s.pli with rx := .hunt }
        pae := { s.pae with effective := if s.supervisor.present then s.pae.effective else s.pae.budget } }) ∧
    ∀ b,
      let h := { s with
        panels := s.panels.set b { s.panels.get b with present := true, window := 0 }
        pli := { s.pli with rx := .hunt } }
      heard (.panel b) s = (if (s.panels.get b).present then h else examineAdmission b h) ∧
      (masterState (.panel b) (heard (.panel b) s)).present = true ∧
      (masterState (.panel b) (heard (.panel b) s)).window = 0

/-- The waiting response goes out whole, with the layout of section 12.1, and the receiver resumes in HUNT; with none
waiting nothing is sent. That it is sent in one event, and the record of it, are the model's choice (log 11). -/
def Obligations.WaitingResponseIsSentWhole : Prop :=
  (∀ (r : Response) (s : State), s.pli.tx = some r →
    exec .responseSend s = .next { s with pli := { s.pli with tx := none, rx := .hunt, sent := responseChars r } }) ∧
  (∀ s : State, s.pli.tx = none → exec .responseSend s = .next s) ∧
  (∀ r : Response,
    let body := [statusCode r.status, if r.noise then 1#8 else 0#8] ++ r.payload
    let crc := crc16 ([masterAddress r.dest, 0x40#8, r.kind, BitVec.ofNat 8 body.length] ++ body)
    (responseChars r).map WireChar.byte =
      [masterAddress r.dest, 0x40#8, r.kind, BitVec.ofNat 8 body.length] ++ body ++ halfBytes crc ∧
    (responseChars r).map WireChar.mark = true :: List.replicate (5 + body.length) false)

/-- An echo mismatch ends the response before the character that read back wrong, raises LINK_FAULT and resumes in HUNT; a
character read back as it was sent, noisy or not, does nothing. The record of the characters sent, and that an echo
whose start bit reads 1 counts as a mismatch, are the model's choice (logs 11 and 30). -/
def Obligations.EchoMismatchCutsTheResponse : Prop :=
  ∀ (n : Nat) (cs : CharSamples) (r : Response) (w : WireChar) (s : State),
    s.pli.tx = some r → (responseChars r)[n]? = some w →
    ((∀ x, receiveChar cs = some x → x.byte ≠ w.byte ∨ x.mark ≠ w.mark ∨ x.framing = true) →
      exec (.echoMismatch n cs) s = .next
        (linkFault { s with pli := { s.pli with tx := none, rx := .hunt, sent := (responseChars r).take n } })) ∧
    (∀ x, receiveChar cs = some x → x.byte = w.byte → x.mark = w.mark → x.framing = false →
      exec (.echoMismatch n cs) s = .next s)

/-- In the turnaround of a response an address character discards it unsent, raises LINK_FAULT and is taken as in HUNT; any
other character is disregarded. -/
def Obligations.TurnaroundAddressDiscardsTheResponse : Prop :=
  ∀ (cs : CharSamples) (x : RxChar) (s : State), Awake s → s.pli.tx ≠ none → receiveChar cs = some x →
    (x.mark = true → x.framing = false → exec (.linkCharacter cs) s = .next
      (linkFault { s with pli := { s.pli with
        tx := none, rx := if x.byte = 0x40#8 then .header [] x.noise else .skip } })) ∧
    (x.mark = false ∨ x.framing = true → exec (.linkCharacter cs) s = .next s)

/-- A PRESENT master whose window expires becomes ABSENT with MASTER_LOST: the supervisor's loss lowers E to min(B, 1500 W),
a bay master's loss parks its bay's program with MASTER_LOST and leaves any other bay state as it is. That
the window timer then stands at its limit is the model's reading (log 18). -/
def Obligations.PresenceExpiryRaisesMasterLost : Prop :=
  ∀ s : State, Awake s →
    let sup := fun (x : MasterState) => { x with
      pending := x.pending ||| 0x0100#16, line := (x.pending ||| 0x0100#16) &&& x.mask != 0#16 }
    (s.supervisor.present = true → exec (.presenceExpiry .supervisor) s = .next
      { s with
        supervisor := sup { s.supervisor with present := false, window := 30000 }
        pae := { s.pae with effective := min s.pae.budget 1500 } }) ∧
    (s.supervisor.present = false → exec (.presenceExpiry .supervisor) s = .next s) ∧
    ∀ b,
      ((s.panels.get b).present = false → exec (.presenceExpiry (.panel b)) s = .next s) ∧
      ((s.panels.get b).present = true →
        let lost := { s with
          panels := s.panels.set b { s.panels.get b with present := false, window := 10000 }
          supervisor := sup s.supervisor }
        (inProgress (s.bsq.get b) = false → exec (.presenceExpiry (.panel b)) s = .next lost) ∧
        (inProgress (s.bsq.get b) = true → ∃ t, exec (.presenceExpiry (.panel b)) s = .next t ∧
          (t.panels.get b).present = false ∧ t.supervisor = sup s.supervisor ∧
          (t.bsq.get b).state = .parking ∧ (t.bsq.get b).parkTimer = 0 ∧ (t.bsq.get b).holds = HoldSet.empty ∧
          (t.bsq.get b).context =
            (s.bsq.get b).context.map (fun x => { x with pendingResult := some .masterLost }) ∧
          t.srs = s.srs ∧ t.pts = s.pts ∧ t.snu = s.snu ∧ t.pli = s.pli ∧ t.moc = s.moc))

/-! ### Reading requests -/

/-- PING, STATUS_PLANT, STATUS_BAY, EVENTS_READ, OUTCOME_READ and PROFILE_READ are ACKed with what they ask for, taken after
the presence update, and change nothing else. Which values of STATUS_BAY read as absent, the
rounding of seconds and the code of the valve byte are in part the model's choice (logs 10, 12 and 32). -/
def Obligations.ReadingRequestsAnswerAndChangeNothing : Prop :=
  ∀ (m : Master) (noise : Bool) (s : State), Awake s → masterFitted m s = true →
    let h := heard m s
    let answers := fun (c : Instr) (kind : Byte) (payload : List Byte) =>
      exec c s = .next (respond m kind noise ⟨.ack, payload⟩ h)
    answers (.ping m noise) 0x01#8 [modeCode s.moc.phase, resetCauseCode s.moc.resetCause, fittedByte s] ∧
    answers (.eventsRead m noise) 0x04#8
      (halfBytes (masterState m h).pending ++ halfBytes (masterState m h).mask) ∧
    (∀ part : Byte, part.toNat ≤ 3 → answers (.statusPlant m noise part) 0x02#8 (statusPlantBytes part h)) ∧
    (∀ b part, s.fitted.get b = true → ownBay m b = true → (part = 0#8 ∨ part = 1#8) →
      answers (.statusBay m noise (bayByte b) part) 0x03#8
        ([bayByte b, part] ++ if part = 0#8 then bayPart0 b h else bayPart1 b h)) ∧
    (∀ b, s.fitted.get b = true → ownBay m b = true →
      let rs := fitRecords 4 42 (h.oau.get b).records
      answers (.outcomeRead m noise (bayByte b)) 0x09#8
        ([bayByte b, (h.oau.get b).q, (h.oau.get b).f, BitVec.ofNat 8 rs.length] ++ rs.flatMap outcomeBytes)) ∧
    (∀ slot : Byte, m = .supervisor → slot.toNat ≤ 15 →
      answers (.profileRead m noise slot) 0x0F#8
        ([slot] ++ profileBytes (h.pts.table[slot.toNat]?).join ++ commitBytes h.pts))

/-- The payload any owner forms is at most 46 bytes, so that every response frame's payload is at most 48, and the parts of
STATUS_PLANT and STATUS_BAY hold the bytes of section 12.3 one after the other. Which values of STATUS_BAY read as absent, the
rounding of seconds and the code of the valve byte are in part the model's choice (logs 10, 12 and 32). -/
def Obligations.OwnerPayloadsFitTheFrame : Prop :=
  (∀ (m : Master) (r : Request) (s : State), (perform m r s).2.payload.length ≤ 46) ∧
  ∀ (b : Bay) (s : State),
    let bits := fun (xs : List Bool) => (xs.zipIdx.foldl (fun n x => if x.1 then n + 2 ^ x.2 else n) 0 : Nat)
    let one := fun (n : Nat) => [BitVec.ofNat 8 n]
    let two := fun (n : Nat) => [BitVec.ofNat 8 (n / 256), BitVec.ofNat 8 n]
    let four := fun (n : Nat) => two (n / 65536) ++ two n
    let oneOr := fun (n : Option Nat) => match n with | some n => one n | none => [0xFF#8]
    let twoOr := fun (n : Option Nat) => match n with | some n => two n | none => [0xFF#8, 0xFF#8]
    let threeOr := fun (n : Option Nat) => match n with | some n => one (n / 65536) ++ two n | none => [0xFF#8, 0xFF#8, 0xFF#8]
    let all := fun (f : Bay → List Byte) => f .b0 ++ f .b1 ++ f .b2 ++ f .b3
    let channel := fun (c : Channel) => [channelStateCode c.state] ++
      oneOr (if c.state = .valid ∨ c.state = .stale then c.last else none) ++ twoOr (c.rawCode.map BitVec.toNat)
    let cabinet := fun (f : SwitchFilter → Bool) => one (bits
      [f s.snu.boilerWaterOk, f s.snu.boilerCutout, f s.snu.freshLow, f s.snu.freshEmpty, f s.snu.condFull])
    let g := s.pae.grants
    let q := s.bsq.get b
    let x := if q.state = .waiting ∨ q.state = .running ∨ q.state = .held ∨ q.state = .parking then q.context else none
    let r := s.srs.get b
    let o := s.oau.get b
    let a := s.alc.bays.get b
    let f := s.snu.fronts.get b
    statusPlantBytes 0x00#8 s = [0x00#8, modeCode s.moc.phase, resetCauseCode s.moc.resetCause] ++
      one (bits [s.pts.storeInvalid, s.pts.dirty]) ++
      one (bits [s.fitted.get .b0, s.fitted.get .b1, s.fitted.get .b2, s.fitted.get .b3]) ++
      one (bits [s.supervisor.present, (s.panels.get .b0).present, (s.panels.get .b1).present,
        (s.panels.get .b2).present, (s.panels.get .b3).present]) ++
      one (bits [decide (s.moc.pumpMode = .service), s.moc.pumpValue]) ++
      cabinet SwitchFilter.raw ++ cabinet SwitchFilter.filtered ++ cabinet SwitchFilter.confirmed ++
      [commitPhaseCode s.pts.phase] ++ twoOr (if s.pts.phase = .idle then none else some s.pts.phaseTimer) ++
      one (bits [s.pts.reErased, s.pts.rewritten, s.pts.marker]) ++ [commitResultCode s.pts.lastResult] ∧
    statusPlantBytes 0x01#8 s = [0x01#8] ++ two s.pae.budget ++ two s.pae.effective ++
      one (bits [s.pae.compressorOn, s.alc.compressorDrive, s.pae.shed]) ++ one (s.pae.minOn / 1000) ++
      one (s.pae.minOff / 1000) ∧
    statusPlantBytes 0x02#8 s = [0x02#8] ++ two g.boiler ++ two g.compressor ++ all (fun b => two (g.aux.get b)) ++
      all (fun b => one (g.fan.get b)) ++ all (fun b => one (g.osc.get b)) ++ one g.pump ++ one g.class0 ++
      two g.class1 ++ two g.class2 ++ two g.unallotted ∧
    statusPlantBytes 0x03#8 s = [0x03#8, boilerStateCode s.blc.state, lockCauseCode s.blc.cause] ++
      one (s.blc.fillTimer / 1000) ++ two (s.blc.idleTimer / 1000) ++ two s.blc.carry ++ one s.blc.pointer.toNat ++
      one s.blc.lastYield ++ all (fun b => one (s.blc.credits.get b)) ++ four s.blc.produced.toNat ++
      channel s.snu.boilerTemp ∧
    statusBayBytes b 0x00#8 s = [bayByte b, 0x00#8, bayStateCode q.state] ++
      one (bits [q.context.isSome, (match q.context with | some y => y.paused | none => false),
        (s.panels.get b).present]) ++
      [q.admission] ++ oneOr (x.map Context.stepCount) ++ oneOr (x.map Context.index) ++
      [match x.bind contextCopy with | some c => kindCode c.kind | none => 0xFF#8] ++
      one (bits [q.holds.frontOpen, q.holds.paused, q.holds.noSteam, q.holds.noPower, q.holds.tankFull,
        q.holds.plantStandby]) ++
      twoOr (x.map fun y => y.stepTimer / 1000) ++ twoOr (x.map fun y => y.heldTime / 1000) ++
      twoOr (x.map fun y => y.stallTimer / 1000) ++ threeOr (x.map Context.delivered) ++
      oneOr (if q.state = .parking then some (q.parkTimer / 1000) else none) ++
      [match x.bind Context.pendingResult with
        | some y => if q.state = .parking then resultCode (parkResult y) else 0xFF#8
        | none => 0xFF#8] ++
      [r.p, r.c] ++ one r.admitted ++ one ((r.records.drop r.admitted).filter isEnd).length ++ one r.openLength ++
      [o.q, o.f] ++ one o.records.length ++ one (bits [o.reservation, o.promise]) ++ one (freeEntries o) ∧
    statusBayBytes b 0x01#8 s = [bayByte b, 0x01#8] ++ one a.fan.driven ++ [damperCode a.damper.driven] ++
      one a.osc.driven ++
      one (bits [decide (a.fan.mode = .service), decide (a.damper.mode = .service), decide (a.osc.mode = .service)]) ++
      one a.fan.service ++ [damperCode a.damper.service] ++ one a.osc.service ++ two a.demand ++ two a.drive ++
      one (if s.blc.valves.get b then 1 else 0) ++ one (bits [f.raw, f.filtered, f.confirmed]) ++
      channel (s.snu.temps.get b) ++ channel (s.snu.hums.get b)

/-- An OUTCOME_READ carries the oldest records in posting order, whole, at most four and at most 42 bytes; it leaves one out
only where four are carried or it would not fit. -/
def Obligations.OutcomeReadCarriesOldestRecordsWhole : Prop :=
  ∀ rs : List Outcome,
    let sent := fitRecords 4 42 rs
    sent <+: rs ∧ sent.length ≤ 4 ∧ (sent.flatMap outcomeBytes).length ≤ 42 ∧
    (∀ o rest, rs = sent ++ o :: rest → sent.length = 4 ∨
      42 < (sent.flatMap outcomeBytes).length + (outcomeBytes o).length)

/-! ### Events, rings and outcomes -/

/-- EVENTS_CLEAR clears the latched events it names in its sender's set, EVENTS_MASK replaces its sender's mask; both leave
the line as the law has it and are answered with the set and mask that result. -/
def Obligations.EventRequestsActOnTheirSender : Prop :=
  ∀ (m : Master) (noise : Bool) (named : Half) (s : State), Awake s → masterFitted m s = true →
    let h := heard m s
    let x := masterState m h
    let latched := match m with | .supervisor => 0x0FFF#16 | .panel _ => 0x000E#16
    let owned := match m with | .supervisor => 0x0FFF#16 | .panel _ => 0x000F#16
    let left := x.pending &&& ~~~(named &&& latched)
    let mask := named &&& owned
    exec (.eventsClear m noise named) s = .next
      (respond m 0x05#8 noise ⟨.ack, halfBytes left⟩
        (setMaster m { x with pending := left, line := left &&& x.mask != 0#16 } h)) ∧
    exec (.eventsMask m noise named) s = .next
      (respond m 0x06#8 noise ⟨.ack, halfBytes mask ++ halfBytes x.pending⟩
        (setMaster m { x with mask := mask, line := x.pending &&& mask != 0#16 } h))

/-- STEP_APPEND: its four checks in order, each refusing the whole batch; a batch that passes is written at the tail, P
advances by its length, and admission is examined where it closes a program and the bay is IDLE. -/
def Obligations.StepAppendChecksInOrderThenWrites : Prop :=
  ∀ (b : Bay) (noise : Bool) (expected : Byte) (records : List StepRecord) (s : State),
    Awake s → s.fitted.get b = true → 1 ≤ records.length → records.length ≤ 4 →
    let h := heard (.panel b) s
    let r := h.srs.get b
    let got := exec (.stepAppend (.panel b) noise (bayByte b) expected records) s
    let refused := fun (why : NakReason) (payload : List Byte) =>
      got = .next (respond (.panel b) 0x07#8 noise ⟨.nak why, payload⟩ h)
    (expected ≠ r.p → refused .position [r.p]) ∧
    (expected = r.p →
      ((∃ x ∈ records, 15 < x.profile.toNat) → refused .valueBad []) ∧
      ((∀ x ∈ records, x.profile.toNat ≤ 15) →
        (16 < r.records.length + records.length → refused .ringFull []) ∧
        (r.records.length + records.length ≤ 16 →
          (openAfter r.openLength records = none → refused .tooLong []) ∧
          ∀ n, openAfter r.openLength records = some n →
            let p := r.p + BitVec.ofNat 8 records.length
            let t := setRing b { r with records := r.records ++ records, p := p, openLength := n } h
            ((∀ x ∈ records, isEnd x = false) ∨ (h.bsq.get b).state ≠ .idle →
              got = .next (respond (.panel b) 0x07#8 noise ⟨.ack, [p]⟩ t)) ∧
            ((∃ x ∈ records, isEnd x = true) →
              got = .next (respond (.panel b) 0x07#8 noise ⟨.ack, [p]⟩ (examineAdmission b t))))))

/-- A batch leaves an open-program length just when no program of it would have more than eight steps: each record adds
one, and PROGRAM_END returns the length to 0. -/
def Obligations.OpenLengthFollowsTheBatch : Prop :=
  ∀ (n : Nat) (records : List StepRecord), n ≤ 8 →
    (∀ k, openAfter n records = some k → k ≤ 8) ∧
    ((∀ x ∈ records, isEnd x = false) →
      openAfter n records = if n + records.length ≤ 8 then some (n + records.length) else none) ∧
    (∀ before x after, records = before ++ x :: after → (∀ y ∈ before, isEnd y = false) → isEnd x = true →
      openAfter n records = if n + before.length + 1 ≤ 8 then openAfter 0 after else none)

/-- QUEUE_CANCEL: nothing behind the admitted part is an ACK without effect; without a free unreserved entry it is refused;
else everything behind the admitted part goes, P falls to C plus the admitted count, and one CANCELLED outcome is posted. -/
def Obligations.QueueCancelRemovesWhatIsBehind : Prop :=
  ∀ (b : Bay) (noise : Bool) (s : State), Awake s → s.fitted.get b = true →
    let h := heard (.panel b) s
    let r := h.srs.get b
    let o := h.oau.get b
    let behind := r.records.drop r.admitted
    (behind = [] → exec (.queueCancel (.panel b) noise (bayByte b)) s =
      .next (respond (.panel b) 0x08#8 noise ⟨.ack, [r.p]⟩ h)) ∧
    (behind ≠ [] → freeEntries o = 0 → exec (.queueCancel (.panel b) noise (bayByte b)) s =
      .next (respond (.panel b) 0x08#8 noise ⟨.nak .outcomeFull, []⟩ h)) ∧
    (∀ first rest, behind = first :: rest → 1 ≤ freeEntries o →
      let p := r.c + BitVec.ofNat 8 r.admitted
      ∃ t, exec (.queueCancel (.panel b) noise (bayByte b)) s = .next t ∧
        t.pli = { h.pli with tx := some ⟨.panel b, 0x08#8, .ack, noise, [p]⟩ } ∧
        t.srs.get b = { r with records := r.records.take r.admitted, p := p, openLength := 0 } ∧
        t.oau.get b = { o with
          records := o.records ++
            [⟨o.q, .cancelled, true, first.tag, false, none, none, none, endValues b h, none,
              some ((behind.filter isEnd).length, behind.length)⟩]
          q := o.q + 1 } ∧
        (o.records = [] → (t.panels.get b).pending = (h.panels.get b).pending ||| 0x0001#16) ∧
        (o.records ≠ [] → t.panels = h.panels) ∧
        (∀ c, c ≠ b → t.srs.get c = h.srs.get c ∧ t.oau.get c = h.oau.get c) ∧
        t.bsq = h.bsq ∧ t.pae = h.pae ∧ t.blc = h.blc ∧ t.alc = h.alc ∧ t.snu = h.snu ∧ t.pts = h.pts ∧ t.moc = h.moc)

/-- OUTCOME_FREE: with k = F′ − F, 0 is an ACK without effect, more than the records held is refused, and otherwise the k
oldest records go, F becomes F′, and what waits for an entry goes on: a WAITING step starts, an IDLE bay has admission
examined. An examination does nothing while a condition of R33 fails; it rejects the oldest program at the first failed check of
its first failing step, removes it and examines again; a program that passes is clamped, reserves its entry, takes the next
admission number and enters step 0. -/
def Obligations.OutcomeFreeRemovesTheOldest : Prop :=
  ∀ (b : Bay) (noise : Bool) (freed : Byte) (s : State),
    let startHolds := fun (front paused steam dry : Bool) (u : State) => ({
      frontOpen := front, paused := paused, noSteam := steam && decide (u.blc.state ≠ .ready)
      noPower := dry && decide (u.pae.grants.compressor = 0)
      tankFull := (steam || dry) && u.snu.condFull.filtered, plantStandby := decide (u.moc.phase = .standby) } : HoldSet)
    (Awake s → s.fitted.get b = true →
      let h := heard (.panel b) s
      let o := h.oau.get b
      let q := h.bsq.get b
      let k := (freed - o.f).toNat
      (k = 0 → exec (.outcomeFree (.panel b) noise (bayByte b) freed) s =
        .next (respond (.panel b) 0x0A#8 noise ⟨.ack, [o.q, o.f]⟩ h)) ∧
      (o.records.length < k → exec (.outcomeFree (.panel b) noise (bayByte b) freed) s =
        .next (respond (.panel b) 0x0A#8 noise ⟨.nak .valueBad, [o.q, o.f]⟩ h)) ∧
      (1 ≤ k → k ≤ o.records.length →
        let left := setOutcomes b { o with records := o.records.drop k, f := freed } h
        let u := if o.records.drop k = [] then dropOutcomeReady b left else left
        let t := afterFree b u
        exec (.outcomeFree (.panel b) noise (bayByte b) freed) s =
          .next (respond (.panel b) 0x0A#8 noise ⟨.ack, [(t.oau.get b).q, freed]⟩ t) ∧
        o.records.drop k <+: (t.oau.get b).records ∧
        (o.records.drop k = [] → (u.panels.get b).pending &&& 0x0001#16 = 0#16) ∧
        (q.state = .idle → t = examineAdmission b u) ∧
        (q.state ≠ .idle → q.state ≠ .waiting ∨ freeEntries (u.oau.get b) = 0 → t = u) ∧
        (q.state = .waiting → 1 ≤ freeEntries (u.oau.get b) →
          ∀ x c, q.context = some x → x.copies[x.index]? = some c →
            let holds := startHolds ((h.snu.fronts.get b).filtered && !c.openOk) x.paused
              (decide (c.kind = .steam)) (decide (c.kind = .dry)) h
            t.bsq.get b = { q with
              state := if holds = HoldSet.empty then .running else .held, holds := holds
              context := some { x with stepTimer := 0, stallTimer := 0, satisfied := 0, delivered := 0 } } ∧
            t.oau.get b = { u.oau.get b with
              promise := o.promise || (headNotify b h && decide (x.index + 1 < x.stepCount)) } ∧
            (t.panels.get b).pending &&& 0x0002#16 ≠ 0#16 ∧
            t.srs = h.srs ∧ t.pae = h.pae ∧ t.snu = h.snu ∧ t.pts = h.pts ∧ t.moc = h.moc ∧
            t.supervisor = h.supervisor ∧ t.blc.state = h.blc.state))) ∧
    let r := s.srs.get b
    let o := s.oau.get b
    let a := s.alc.bays.get b
    let ready := (s.bsq.get b).state = .idle ∧ (s.panels.get b).present = true ∧ s.moc.phase = .run ∧
      a.fan.mode = .auto ∧ a.damper.mode = .auto ∧ a.osc.mode = .auto ∧
      (s.snu.temps.get b).state = .valid ∧ (s.snu.hums.get b).state = .valid ∧ 1 ≤ freeEntries o
    let profile := fun (x : StepRecord) => (s.pts.table[x.profile.toNat]?).join
    let kind := fun (x : StepRecord) => x.kind.toNat
    let given := fun (x : StepRecord) => x.goal != 0xFFFF#16
    let openOk := fun (x : StepRecord) => x.flags.getLsbD 2 && decide (kind x = 4 ∨ kind x = 5)
    let finding := fun (x : StepRecord) =>
      if kind x = 0 ∨ 5 < kind x then some RejectReason.badKind
      else if x.duration = 0#16 then some .badDuration
      else match profile x with
        | none => some .badProfile
        | some p =>
          if kind x = 1 ∧ p.maxDose = 0 then some .profileForbidsSteam
          else if kind x = 5 ∧ given x = true then some .goalNotAllowed
          else none
    let level := fun (x : StepRecord) => min 8 (max 1 x.level.toNat)
    let goal := fun (x : StepRecord) (p : Profile) =>
      if kind x = 1 then min p.maxDose (max 1 x.goal.toNat)
      else if kind x = 2 then max p.dryFloor (min 100 x.goal.toNat)
      else if kind x = 3 then min p.maxOsc x.goal.toNat
      else if kind x = 4 then min 90 x.goal.toNat
      else x.goal.toNat
    let isCopy := fun (x : StepRecord) (p : Profile) (c : StepCopy) =>
      kindCode c.kind = x.kind ∧ c.level = level x ∧ c.duration = min p.maxStep x.duration.toNat ∧
      c.goalGiven = given x ∧
      c.target = (if kind x = 1 then some (if given x then goal x p else p.maxDose)
        else if (kind x = 2 ∨ kind x = 4) ∧ given x = true then some (goal x p) else none) ∧
      c.tempLimit = (if kind x = 2 then some p.maxAirTemp else if kind x = 3 then some (p.maxAirTemp - 10) else none) ∧
      c.fanCeiling = (if kind x = 2 ∨ kind x = 3 then min (level x) p.maxFan
        else if kind x = 4 then p.maxFan else if kind x = 1 then 2 else 0) ∧
      c.oscRate = (if kind x = 3 then if given x then goal x p else p.maxOsc else 0) ∧ c.openOk = openOk x
    let changes := fun (x : StepRecord) (p : Profile) =>
      level x ≠ x.level.toNat ∨ p.maxStep < x.duration.toNat ∨ (given x = true ∧ goal x p ≠ x.goal.toNat) ∨
      (x.flags.getLsbD 2 = true ∧ openOk x = false)
    (¬ ready ∨ (∀ x ∈ r.records, isEnd x = false) → examineAdmission b s = s) ∧
    ∀ front last rest, r.records = front ++ last :: rest → (∀ x ∈ front, isEnd x = false) → isEnd last = true → ready →
      let program := front ++ [last]
      (∀ (i : Nat) x why, program[i]? = some x → finding x = some why →
        (∀ (j : Nat) y, j < i → program[j]? = some y → finding y = none) →
        let p := s.panels.get b
        examineAdmission b s = examineAdmission b { s with
          oau := s.oau.set b { o with
            records := o.records ++
              [⟨o.q, .rejected, true, x.tag, false, some i, none, none, endValues b s, some (i, why), none⟩]
            q := o.q + 1 }
          srs := s.srs.set b { r with records := rest, c := r.c + BitVec.ofNat 8 program.length }
          panels := if o.records = [] ∧ s.fitted.get b = true then s.panels.set b { p with
            pending := p.pending ||| 0x0001#16, line := (p.pending ||| 0x0001#16) &&& p.mask != 0#16 } else s.panels }) ∧
      ((∀ x ∈ program, finding x = none) → ∀ first, program.head? = some first →
        let t := examineAdmission b s
        let q := t.bsq.get b
        let promises := first.flags.getLsbD 1 = true ∧ 1 < program.length
        let waits := promises ∧ freeEntries { o with reservation := true } = 0
        t.srs = s.srs.set b { r with admitted := program.length } ∧
        t.oau = s.oau.set b { o with
          reservation := true, promise := o.promise || decide (promises ∧ ¬ waits) } ∧
        q.admission = (s.bsq.get b).admission + 1 ∧
        (∃ y, q.context = some y ∧ y.stepCount = program.length ∧ y.index = 0 ∧ y.paused = false ∧ y.stepTimer = 0 ∧
          y.heldTime = 0 ∧ y.stallTimer = 0 ∧ y.satisfied = 0 ∧ y.delivered = 0 ∧ y.pendingResult = none ∧
          y.copies.length = program.length ∧
          (∀ (i : Nat) x p, program[i]? = some x → profile x = some p → ∃ c, y.copies[i]? = some c ∧ isCopy x p c) ∧
          (y.clamped = true ↔ ∃ x ∈ program, ∃ p, profile x = some p ∧ changes x p)) ∧
        (waits → q.state = .waiting ∧ q.holds = HoldSet.empty) ∧
        (¬ waits →
          q.holds = startHolds ((s.snu.fronts.get b).filtered && !openOk first) false
            (decide (kind first = 1)) (decide (kind first = 2)) t ∧
          q.state = if q.holds = HoldSet.empty then .running else .held) ∧
        (t.blc.state =
          if s.blc.state = .cold ∧ ((∃ x ∈ program, kind x = 1) ∨ steamWanted s = true) ∧
            s.snu.boilerCutout.filtered = false ∧ s.snu.boilerTemp.state = .valid ∧ s.moc.pumpMode = .auto then
            if s.snu.boilerWaterOk.filtered then if boilerTempIs (fun v => decide (102 ≤ v)) s then .ready else .heat
            else if s.snu.freshEmpty.filtered then .starved else .fill
          else s.blc.state) ∧
        t.pae = { s.pae with grants := t.pae.grants } ∧ t.pae.grants.compressor = s.pae.grants.compressor ∧
        t.snu = s.snu ∧ t.pts = s.pts ∧ t.moc = s.moc ∧ t.pli = s.pli ∧ t.fitted = s.fitted ∧ t.pending = s.pending ∧ ∀ d, d ≠ b → (t.bsq.get d).admission = (s.bsq.get d).admission)

/-! ### The bay sequencer -/

/-- BAY_PAUSE and BAY_RESUME with the number of the program in progress set and clear its paused flag: a started step takes
or loses PAUSED at once, a WAITING one at its start. -/
def Obligations.PauseAndResumeActOnTheNamedProgram : Prop :=
  ∀ (b : Bay) (noise : Bool) (n : Byte) (x : Context) (s : State), Awake s → s.fitted.get b = true →
    let h := heard (.panel b) s
    let q := h.bsq.get b
    BayLaw q → q.admission = n → q.context = some x →
    (q.state = .waiting →
      exec (.bayPause (.panel b) noise (bayByte b) n) s = .next (respond (.panel b) 0x0B#8 noise ⟨.ack, [0x02#8, n]⟩
        (setBsq b { q with context := some { x with paused := true } } h)) ∧
      exec (.bayResume (.panel b) noise (bayByte b) n) s = .next (respond (.panel b) 0x0C#8 noise ⟨.ack, [0x02#8, n]⟩
        (setBsq b { q with context := some { x with paused := false } } h))) ∧
    (q.state = .running ∨ q.state = .held →
      (∃ t, exec (.bayPause (.panel b) noise (bayByte b) n) s = .next t ∧
        t.bsq.get b = { q with
          state := .held, holds := { q.holds with paused := true }
          context := some { x with paused := true, satisfied := if q.state = .running then 0 else x.satisfied } } ∧
        t.pli.tx = some ⟨.panel b, 0x0B#8, .ack, noise, [0x04#8, n]⟩ ∧
        t.srs = h.srs ∧ t.oau = h.oau ∧ t.snu = h.snu ∧ t.pts = h.pts ∧ t.moc = h.moc ∧ t.supervisor = h.supervisor ∧
        ∀ c, c ≠ b → t.bsq.get c = h.bsq.get c ∧ t.panels.get c = h.panels.get c ∧
          t.alc.bays.get c = h.alc.bays.get c) ∧
      (∃ t, exec (.bayResume (.panel b) noise (bayByte b) n) s = .next t ∧
        (t.bsq.get b).holds = { q.holds with paused := false } ∧
        ((t.bsq.get b).state = .running ↔ ({ q.holds with paused := false } : HoldSet) = HoldSet.empty) ∧
        ((t.bsq.get b).state = .running ∨ (t.bsq.get b).state = .held) ∧
        (t.bsq.get b).context = some { x with
          paused := false
          stallTimer := if q.state = .held ∧ (t.bsq.get b).state = .running then 0 else x.stallTimer } ∧
        t.srs = h.srs ∧ t.oau = h.oau ∧ t.snu = h.snu ∧ t.pts = h.pts ∧ t.moc = h.moc ∧ t.supervisor = h.supervisor ∧
        ∀ c, c ≠ b → t.bsq.get c = h.bsq.get c ∧ t.panels.get c = h.panels.get c ∧
          t.alc.bays.get c = h.alc.bays.get c))

/-- A request on the running program is refused with NAK BAD_STATE where its number does not match or no admitted program
is there, and is ACKed without effect while that program parks. -/
def Obligations.RequestsOnNoProgramAreRefused : Prop :=
  ∀ (b : Bay) (noise : Bool) (n : Byte) (s : State), Awake s → s.fitted.get b = true →
    let h := heard (.panel b) s
    let q := h.bsq.get b
    let all := fun (st : Status) =>
      exec (.bayPause (.panel b) noise (bayByte b) n) s =
        .next (respond (.panel b) 0x0B#8 noise ⟨st, [bayStateCode q.state, q.admission]⟩ h) ∧
      exec (.bayResume (.panel b) noise (bayByte b) n) s =
        .next (respond (.panel b) 0x0C#8 noise ⟨st, [bayStateCode q.state, q.admission]⟩ h) ∧
      exec (.programAbort (.panel b) noise (bayByte b) n) s =
        .next (respond (.panel b) 0x0D#8 noise ⟨st, [bayStateCode q.state, q.admission]⟩ h)
    (q.admission ≠ n → all (.nak .badState)) ∧
    (q.state = .idle ∨ q.state = .faulted → all (.nak .badState)) ∧
    (q.state = .parking → q.context = none → all (.nak .badState)) ∧
    (q.state = .parking → q.context ≠ none → q.admission = n → all .ack)

/-- PROGRAM_ABORT with the number of the program in progress parks it with ABORTED: the step is frozen, holds and promise
end, the park timer starts, and an AUTO fan and damper go to their parking levels with no heat. -/
def Obligations.AbortParksTheNamedProgram : Prop :=
  ∀ (m : Master) (b : Bay) (noise : Bool) (n : Byte) (s : State),
    Awake s → s.fitted.get b = true → m = .supervisor ∨ m = .panel b →
    let h := heard m s
    let q := h.bsq.get b
    inProgress q = true → q.admission = n →
    ∃ t, exec (.programAbort m noise (bayByte b) n) s = .next t ∧
      t.bsq.get b = { q with
        state := .parking, holds := HoldSet.empty, parkTimer := 0, parkMinTaken := false
        context := q.context.map fun x => { x with pendingResult := some .aborted } } ∧
      t.oau.get b = { h.oau.get b with promise := false } ∧
      t.pli = { h.pli with tx := some ⟨m, 0x0D#8, .ack, noise, [0x05#8, n]⟩ } ∧
      ((h.alc.bays.get b).fan.mode = .auto → (t.alc.bays.get b).fan.driven = 8) ∧
      ((h.alc.bays.get b).damper.mode = .auto → (t.alc.bays.get b).damper.driven = .opened) ∧
      (t.alc.bays.get b).demand = 0 ∧ (t.alc.bays.get b).drive = 0 ∧ t.pae.grants.aux.get b = 0 ∧
      t.blc.valves.get b = false ∧ (t.panels.get b).pending &&& 0x0002#16 ≠ 0#16 ∧
      t.srs = h.srs ∧ t.snu = h.snu ∧ t.pts = h.pts ∧ t.moc = h.moc ∧ t.supervisor = h.supervisor ∧
      ∀ c, c ≠ b → t.bsq.get c = h.bsq.get c ∧ t.oau.get c = h.oau.get c ∧ t.panels.get c = h.panels.get c ∧
        t.alc.bays.get c = h.alc.bays.get c ∧ t.pae.grants.aux.get c = h.pae.grants.aux.get c

/-- BAY_CLEAR returns a FAULTED bay whose channels are both VALID to IDLE and examines admission; any other is refused. -/
def Obligations.BayClearNeedsFaultedAndValid : Prop :=
  ∀ (b : Bay) (noise : Bool) (s : State), Awake s → s.fitted.get b = true →
    let h := heard .supervisor s
    let q := s.bsq.get b
    let valid := (s.snu.temps.get b).state = .valid ∧ (s.snu.hums.get b).state = .valid
    (q.state = .faulted → valid →
      let t := examineAdmission b (driveBay b (raisePanel b .stateChange (setBsq b { q with state := .idle } h)))
      exec (.bayClear .supervisor noise (bayByte b)) s =
        .next (respond .supervisor 0x15#8 noise ⟨.ack, [bayStateCode (t.bsq.get b).state]⟩ t)) ∧
    (q.state ≠ .faulted ∨ ¬ valid → exec (.bayClear .supervisor noise (bayByte b)) s =
      .next (respond .supervisor 0x15#8 noise ⟨.nak .badState, [bayStateCode q.state]⟩ h))

/-- The step timer reaching the clamped duration ends a RUNNING step: SHORT for a STEAM, DRY or COOL step with a goal, else
DONE. A final step posts its outcome into the ring; another gives way to the next step, and posts only with NOTIFY.
That the counts of a next step that goes WAITING stand at 0 is the model's reading (log 17). -/
def Obligations.DurationEndsTheStep : Prop :=
  ∀ (b : Bay) (s : State),
    let q := s.bsq.get b
    let o := s.oau.get b
    let r := s.srs.get b
    (q.state ≠ .running → exec (.stepDurationExpiry b) s = .next s) ∧
    ∀ (x : Context) (c : StepCopy), q.state = .running → q.context = some x → x.copies[x.index]? = some c →
      let result : Result :=
        if c.goalGiven = true ∧ (c.kind = .steam ∨ c.kind = .dry ∨ c.kind = .cool) then .short else .done
      let outcome := fun (final : Bool) => ({
        sequence := o.q, result := result, final := final, tag := headTag b s, clamped := x.clamped
        stepIndex := some x.index, times := some (c.duration, x.heldTime / 1000)
        steamDg := if c.kind = .steam then some (x.delivered / 100) else none
        ends := endValues b s, reject := none, removed := none } : Outcome)
      (x.stepCount ≤ x.index + 1 → ∃ t posted, exec (.stepDurationExpiry b) s = .next t ∧
        (t.oau.get b).records = o.records ++ outcome true :: posted) ∧
      (x.index + 1 < x.stepCount → ∃ t y, exec (.stepDurationExpiry b) s = .next t ∧
        (t.bsq.get b).context = some y ∧ y.index = x.index + 1 ∧ y.stepTimer = 0 ∧ y.heldTime = 0 ∧
        y.delivered = 0 ∧ y.copies = x.copies ∧ y.paused = x.paused ∧
        t.srs.get b = { r with records := r.records.drop 1, c := r.c + 1, admitted := r.admitted - 1 } ∧
        (t.oau.get b).records = o.records ++ (if headNotify b s then [outcome false] else []) ∧
        (t.bsq.get b).admission = q.admission ∧ t.pae.grants.aux.get b = 0 ∧
        (∀ d, d ≠ b → t.bsq.get d = s.bsq.get d ∧ t.srs.get d = s.srs.get d ∧ t.oau.get d = s.oau.get d) ∧
        t.snu = s.snu ∧ t.pts = s.pts ∧ t.moc = s.moc ∧ t.pli = s.pli ∧ t.supervisor = s.supervisor)

/-- The stall timer of a HELD step with a plant reason reaching 900 s parks its program with STALLED; a step that does not
count towards a stall is not touched. -/
def Obligations.StallParksTheHeldProgram : Prop :=
  ∀ (b : Bay) (s : State),
    let q := s.bsq.get b
    (q.state ≠ .held ∨ hasPlantReason q.holds = false → exec (.stall b) s = .next s) ∧
    ∀ x : Context, q.state = .held → hasPlantReason q.holds = true → q.context = some x →
      ∃ t, exec (.stall b) s = .next t ∧
        t.bsq.get b = { q with
          state := .parking, holds := HoldSet.empty, parkTimer := 0, parkMinTaken := false
          context := some { x with stallTimer := 900000, pendingResult := some .stalled } } ∧
        t.oau.get b = { s.oau.get b with promise := false } ∧ t.pae.grants.aux.get b = 0 ∧
        (s.fitted.get b = true → (t.panels.get b).pending = (s.panels.get b).pending ||| 0x0006#16) ∧
        t.srs = s.srs ∧ t.snu = s.snu ∧ t.pts = s.pts ∧ t.moc = s.moc ∧ t.pli = s.pli ∧ t.supervisor = s.supervisor ∧
        ∀ d, d ≠ b → t.bsq.get d = s.bsq.get d ∧ t.panels.get d = s.panels.get d

/-- A park ends at 20 s if the VALID temperature is at or below 40 °C, after that on the first sample of it that meets this, and
at 180 s in any case: the final outcome is posted with the pending result, the program's records and reservation go, and the
bay is FAULTED if the indication was set, else IDLE with admission examined. That the 20 s event is taken once in a park is by
the model's own mark parkMinTaken (log 3), and that the command has no effect outside PARKING is its choice (log 2). -/
def Obligations.ParkTimerEndsThePark : Prop :=
  ∀ (b : Bay) (limit : ParkLimit) (raw : BitVec 10) (s : State),
    let q := s.bsq.get b
    let next := fun t : State => exec (.parkTimer b limit) s = .next t
    let cool := ∃ v, (s.snu.temps.get b).last = some v ∧ (s.snu.temps.get b).state = .valid ∧ v ≤ 40
    let closes := fun (w u : State) =>
      let o := w.oau.get b
      let r := w.srs.get b
      let a := w.alc.bays.get b
      let pending := (w.panels.get b).pending
      u.bsq = s.bsq.set b { q with
        state := if q.faultAfterPark then .faulted else .idle
        context := none, parkTimer := 0, parkMinTaken := false, faultAfterPark := false } ∧
      (∀ x result, q.context = some x → x.pendingResult = some result →
        u.oau = w.oau.set b { o with
          records := o.records ++ [{
            sequence := o.q, result := parkResult result, final := true, tag := headTag b w, clamped := x.clamped
            stepIndex := some x.index, times := some (x.stepTimer / 1000, x.heldTime / 1000)
            steamDg := steamDecigrams x, ends := endValues b w, reject := none, removed := none }]
          q := o.q + 1, reservation := false } ∧
        u.srs = w.srs.set b { r with
          records := r.records.drop r.admitted, c := r.c + BitVec.ofNat 8 r.admitted, admitted := 0 } ∧
        (w.fitted.get b = true → (u.panels.get b).pending =
          pending ||| if o.records = [] then 0x0003#16 else 0x0002#16)) ∧
      (q.context = none → u.oau = w.oau ∧ u.srs = w.srs ∧
        (w.fitted.get b = true → (u.panels.get b).pending = pending ||| 0x0002#16)) ∧
      (a.fan.mode = .auto → (u.alc.bays.get b).fan = ⟨0, .auto, a.fan.service, false⟩) ∧
      (a.damper.mode = .auto → (u.alc.bays.get b).damper = ⟨.closed, .auto, a.damper.service, false⟩) ∧
      (a.osc.mode = .auto → (u.alc.bays.get b).osc = ⟨0, .auto, a.osc.service, false⟩) ∧
      (u.alc.bays.get b).demand = 0 ∧ u.blc = { w.blc with valves := w.blc.valves.set b false } ∧
      u.pae = w.pae ∧ u.snu = w.snu ∧ u.pts = w.pts ∧ u.moc = w.moc ∧ u.pli = w.pli ∧ u.supervisor = w.supervisor ∧
      u.fitted = w.fitted ∧ u.pending = w.pending ∧
      ∀ d, d ≠ b → u.panels.get d = w.panels.get d ∧ u.alc.bays.get d = w.alc.bays.get d
    let ends := fun (w t : State) =>
      ∃ u, closes w u ∧ t = (if q.faultAfterPark then u else examineAdmission b u)
    (q.state ≠ .parking → next s) ∧
    (q.state = .parking → limit = .minimum → q.parkMinTaken = true → next s) ∧
    (q.state = .parking → limit = .minimum → q.parkMinTaken = false → ¬ cool →
      next (setBsq b { q with parkTimer := max q.parkTimer 20000, parkMinTaken := true } s)) ∧
    (q.state = .parking → limit = .maximum ∨ (q.parkMinTaken = false ∧ cool) → ∃ t, next t ∧ ends s t) ∧
    (q.state = .parking → s.fitted.get b = true → s.moc.phase ≠ .sleep →
      let c := s.snu.temps.get b
      ∃ t, exec (.analogSample (.bayTemperature b) raw) s = .next t ∧
        (∀ v, convert (.bayTemperature b) raw = some v →
          (v ≤ 40 → 20000 ≤ q.parkTimer → c.state ≠ .fault ∨ 2 ≤ c.validRun → ends { s with snu := t.snu } t) ∧
          (40 < v ∨ q.parkTimer < 20000 ∨ (c.state = .fault ∧ c.validRun < 2) →
            t.bsq = s.bsq ∧ t.srs = s.srs ∧ t.oau = s.oau)) ∧
        (convert (.bayTemperature b) raw = none → t.srs = s.srs ∧ t.oau = s.oau ∧
          (t.bsq.get b).state = .parking ∧ (t.bsq.get b).context = q.context))

/-! ### Power -/

/-- BUDGET_SET applies the value clamped into 800 to 3600 W and rounded down to a multiple of 10 W as B and, the supervisor
being PRESENT, as E; the ACK carries both. -/
def Obligations.BudgetSetAppliesTheClampedValue : Prop :=
  ∀ (noise : Bool) (value : Half) (s : State), Awake s →
    let h := heard .supervisor s
    let v := value.toNat
    ∃ applied : Nat,
      exec (.budgetSet .supervisor noise value) s = .next
        (respond .supervisor 0x0E#8 noise ⟨.ack, bytes2 applied ++ bytes2 applied⟩
          { h with pae := { h.pae with budget := applied, effective := applied } }) ∧
      applied % 10 = 0 ∧ (v ≤ 800 → applied = 800) ∧ (3600 ≤ v → applied = 3600) ∧
      (800 ≤ v → v ≤ 3600 → applied ≤ v ∧ v < applied + 10)

/-- A round, taken in RUN and STANDBY alone: class 0 is charged by what is driven (log 22), the compressor has 600 W or nothing,
and the heaters with a demand share what is left by quantum and weight, in two passes; no heater has more than its demand, and
the three class totals and the remainder make up E less 40 W. The marks of untaken publications are the model's own (log 13). -/
def Obligations.RoundSharesTheBudgetLessTheReserve : Prop :=
  ∀ s : State,
    (¬ Awake s → exec .allotmentRound s = .next s) ∧
    (Awake s → BudgetLaw s → HeaterLaw s → (∀ b, (s.alc.bays.get b).fan.driven ≤ 8) →
      ∃ t, exec .allotmentRound s = .next t ∧
        let g := t.pae.grants
        (∀ b, g.fan.get b = 4 * (s.alc.bays.get b).fan.driven ∧
          g.osc.get b = (if (s.alc.bays.get b).osc.driven = 0 then 0 else 20) ∧
          g.aux.get b ≤ (s.alc.bays.get b).demand) ∧
        g.pump = (if s.blc.pumpDrive then 15 else 0) ∧ g.class0 = g.fan.sum + g.osc.sum + g.pump ∧ g.class0 ≤ 223 ∧
        g.class1 = g.compressor ∧ g.compressor = (if t.pae.compressorOn then 600 else 0) ∧
        g.class2 = g.boiler + g.aux.sum ∧ g.boiler ≤ 1200 ∧
        (s.blc.state ≠ .heat → s.blc.state ≠ .ready → g.boiler = 0) ∧
        g.class0 + g.class1 + g.class2 + g.unallotted = s.pae.effective - 40 ∧
        t.pae.roundTimer = 0 ∧ t.pae.budget = s.pae.budget ∧ t.pae.effective = s.pae.effective ∧
        t.untaken = ⟨true, true, PerBay.fill true⟩ ∧ t.alc.bays = s.alc.bays ∧ t.bsq = s.bsq ∧ t.srs = s.srs ∧
        t.oau = s.oau ∧ t.panels = s.panels ∧ t.blc = s.blc ∧ t.snu = s.snu ∧ t.pts = s.pts ∧ t.moc = s.moc ∧
        t.pli = s.pli ∧
        let steams := fun b => match runningCopy (s.bsq.get b) with
          | some c => if c.kind = .steam then c.level else 0
          | none => 0
        let steamers := steams .b0 + steams .b1 + steams .b2 + steams .b3
        let wanted := match s.blc.state with
          | .heat => 1200
          | .ready => min 1200 (150 * (1 + steamers))
          | _ => 0
        let level := fun b => match currentCopy (s.bsq.get b) with | some c => c.level | none => 0
        let heater := fun b => (⟨some b, (s.alc.bays.get b).demand, 50, level b, 0⟩ : Requestor)
        let rs := ([⟨none, wanted, 150, 4 + steamers, 0⟩, heater .b0, heater .b1, heater .b2, heater .b3]
          : List Requestor).filter fun x => decide (0 < x.demand)
        let r2 := s.pae.effective - 40 - g.class0 - g.compressor
        let first := fun x : Requestor =>
          { x with grant := min x.demand (x.quantum * (r2 * x.weight / sumWeights rs / x.quantum)) }
        let place := fun x : Requestor => match x.bay with | none => 0 | some b => 1 + b.toNat
        let before := fun x y : Requestor => y.weight < x.weight ∨ (x.weight = y.weight ∧ place x < place y)
        let cycle := fun p : List Requestor × Nat => shareCycle p.2 p.1
        g.boiler ≤ wanted ∧
        (sumDemands rs ≤ r2 → g.boiler = wanted ∧ ∀ b, g.aux.get b = (s.alc.bays.get b).demand) ∧
        (r2 < sumDemands rs → ∃ (ordered : List Requestor) (n : Nat),
          ordered.Perm (rs.map first) ∧ ordered.Pairwise before ∧
          let out := cycle^[n] (ordered, r2 - sumGrants ordered)
          cycle out = out ∧ ∀ x ∈ out.1, x.grant = match x.bay with | none => g.boiler | some b => g.aux.get b)) ∧
    (∀ left, shareCycle left [] = ([], left)) ∧
    ∀ left x xs, shareCycle left (x :: xs) =
      if x.grant < x.demand ∧ x.quantum ≤ left then
        let after := shareCycle (left - x.quantum) xs
        ({ x with grant := x.grant + x.quantum } :: after.1, after.2)
      else
        let after := shareCycle left xs
        (x :: after.1, after.2)

/-- The compressor decision of a round: an ON compressor sheds, stays or turns OFF by the first row that applies, an OFF one
turns ON when every condition holds and otherwise stays. -/
def Obligations.RoundDecidesTheCompressor : Prop :=
  ∀ s : State, Awake s →
    let r1 := s.pae.effective - 40 - classZero s
    let want := ∃ b c, startedCopy (s.bsq.get b) = some c ∧ c.kind = .dry ∧
      { (s.bsq.get b).holds with noPower := false } = HoldSet.empty
    let turnsOff := fun (t : State) =>
      t.pae.compressorOn = false ∧ t.pae.minOff = 0 ∧ t.pae.grants.compressor = 0 ∧ t.alc.compressorDrive = false
    ∃ t, exec .allotmentRound s = .next t ∧
      (s.pae.compressorOn = true →
        (r1 < 600 → turnsOff t ∧ t.pae.shed = true ∧
          t.supervisor.pending = s.supervisor.pending ||| 0x0004#16) ∧
        (600 ≤ r1 → want ∨ s.pae.minOn < 60000 →
          t.pae.compressorOn = true ∧ t.pae.grants.compressor = 600 ∧ t.pae.minOn = s.pae.minOn ∧
          t.pae.shed = s.pae.shed ∧ t.supervisor = s.supervisor ∧ t.alc = s.alc) ∧
        (600 ≤ r1 → ¬ want → 60000 ≤ s.pae.minOn →
          turnsOff t ∧ t.pae.shed = s.pae.shed ∧ t.supervisor = s.supervisor)) ∧
      (s.pae.compressorOn = false →
        let starts := want ∧ 120000 ≤ s.pae.minOff ∧ s.snu.condFull.filtered = false ∧ s.moc.phase = .run ∧ 600 ≤ r1
        (starts → t.pae.compressorOn = true ∧ t.pae.grants.compressor = 600 ∧ t.pae.minOn = 0 ∧ t.pae.shed = false ∧
          t.alc.compressorDrive = true ∧ t.supervisor = s.supervisor) ∧
        (¬ starts → t.pae.compressorOn = false ∧ t.pae.grants.compressor = 0 ∧ t.pae.minOff = s.pae.minOff ∧
          t.pae.shed = s.pae.shed ∧ t.supervisor = s.supervisor ∧ t.alc = s.alc))

/-- Whatever the step: the compressor turns ON only with its min-off timer at 120 s, in RUN, with the tank not full and 600 W
left; and it turns OFF only with its min-on timer at 60 s, by a shed, a full tank, the end of RUN, or a warm restart. -/
def Obligations.CompressorKeepsItsMinimumTimes : Prop :=
  ∀ s t : State, step s = .next t →
    (s.pae.compressorOn = false → t.pae.compressorOn = true →
      120000 ≤ s.pae.minOff ∧ s.moc.phase = .run ∧ s.snu.condFull.filtered = false ∧
      600 ≤ s.pae.effective - 40 - classZero s) ∧
    (s.pae.compressorOn = true → t.pae.compressorOn = false →
      60000 ≤ s.pae.minOn ∨ t.pae.shed = true ∨ t.snu.condFull.filtered = true ∨ t.moc.phase ≠ .run ∨
      (t.moc.resetCause = .warm ∧ t.srs = PerBay.fill ⟨[], 0, 0, 0, 0⟩))

/-- The heater shares: every demand if they fit; otherwise at least the first-pass grant each, whole quanta, no more than the
demand, no more than R2 together, and less left over than the quantum of any requestor not yet filled. -/
def Obligations.HeaterSharesFillQuantaByWeight : Prop :=
  ∀ (r2 : Nat) (rs : List Requestor), (∀ r ∈ rs, 0 < r.quantum ∧ r.quantum ∣ r.demand) →
    let out := shareHeaters r2 rs
    (out.map fun r => { r with grant := 0 }).Perm (rs.map fun r => { r with grant := 0 }) ∧
    sumGrants out ≤ r2 ∧
    (∀ r ∈ out, r.grant ≤ r.demand ∧ r.quantum ∣ r.grant) ∧
    (sumDemands rs ≤ r2 → ∀ r ∈ out, r.grant = r.demand) ∧
    (r2 < sumDemands rs →
      out.Pairwise (fun x y => y.weight ≤ x.weight) ∧
      ∀ r ∈ out, min r.demand (r.quantum * (r2 * r.weight / sumWeights rs / r.quantum)) ≤ r.grant ∧
        (r.grant < r.demand → r2 - sumGrants out < r.quantum))

/-! ### The boiler and steam -/

/-- BOILER_CLEAR takes a LOCKED boiler with the cutout false and a VALID temperature below 90 °C to COLD, or on where steam is
wanted, and refuses any other; the fill timer at 45 s starves a filling boiler, the idle cooldown timer at 300 s takes an
unwanted hot one to COLD. -/
def Obligations.BoilerClearFillTimeoutAndCooldown : Prop :=
  ∀ (noise : Bool) (s : State),
    let clear := ∃ v, s.snu.boilerTemp.state = .valid ∧ s.snu.boilerTemp.last = some v ∧ v < 90
    let untouched := fun (t h : State) =>
      t.srs = h.srs ∧ t.oau = h.oau ∧ t.snu = h.snu ∧ t.pts = h.pts ∧ t.moc = h.moc ∧ t.fitted = h.fitted
    (Awake s →
      let h := heard .supervisor s
      (s.blc.state = .locked → s.snu.boilerCutout.filtered = false → clear →
        ∃ t, exec (.boilerClear .supervisor noise) s = .next t ∧ t.blc.cause = .none ∧
          (steamWanted s = false ∨ s.moc.pumpMode = .service → t.blc.state = .cold) ∧
          (steamWanted s = true → s.moc.pumpMode = .auto → t.blc.state =
            if s.snu.boilerWaterOk.filtered then .heat else if s.snu.freshEmpty.filtered then .starved else .fill) ∧
          t.pli.tx = some ⟨.supervisor, 0x16#8, .ack, noise, [boilerStateCode t.blc.state]⟩ ∧
          t.supervisor.pending = h.supervisor.pending ||| 0x0008#16 ∧ untouched t h) ∧
      (s.blc.state ≠ .locked ∨ s.snu.boilerCutout.filtered = true ∨ ¬ clear →
        exec (.boilerClear .supervisor noise) s = .next (respond .supervisor 0x16#8 noise
          ⟨.nak .badState, [boilerStateCode s.blc.state, lockCauseCode s.blc.cause]⟩ h))) ∧
    (s.blc.state = .fill → ∃ t, exec .fillTimeout s = .next t ∧ t.blc.state = .starved ∧ t.blc.fillTimer = 0 ∧
      (s.moc.pumpMode = .auto → t.blc.pumpDrive = false) ∧
      t.supervisor.pending = s.supervisor.pending ||| 0x0008#16 ∧ untouched t s ∧ t.pli = s.pli) ∧
    (s.blc.state ≠ .fill → exec .fillTimeout s = .next s) ∧
    (s.blc.state = .heat ∨ s.blc.state = .ready → steamWanted s = false →
      ∃ t, exec .idleCooldown s = .next t ∧ t.blc.state = .cold ∧ t.blc.idleTimer = 0 ∧ t.blc.heaterDrive = 0 ∧
        (s.blc.state = .ready → t.blc.carry = 0) ∧ t.pae.grants.boiler = 0 ∧
        t.supervisor.pending = s.supervisor.pending ||| 0x0008#16 ∧ untouched t s ∧ t.pli = s.pli) ∧
    ((s.blc.state ≠ .heat ∧ s.blc.state ≠ .ready) ∨ steamWanted s = true → exec .idleCooldown s = .next s)

/-- STEAM_YIELD: a READY boiler with a bay steaming yields ⌊N / 2257⌋ mg from its grant above keep-warm and its carry, keeps
the remainder as carry, and credits each steaming bay; a credit that fills the target ends the step with DONE. Otherwise
nothing is yielded and the carry is kept. The untaken mark, and that the command acts without it, are the model's choice
(log 13); that the boiler heater drive takes the grant here is its reading (log 14). -/
def Obligations.SteamYieldKeepsTheRemainderAndCredits : Prop :=
  ∀ s : State,
    let g := s.pae.grants.boiler
    let n := s.blc.carry + (g - 150) * 500
    let y := n / 2257
    let credits := steamCredits y s
    (s.blc.state = .ready → (∃ b, steaming s b = true) →
      ∃ t, exec .steamYield s = .next t ∧ t.untaken = { s.untaken with blc := false } ∧
        t.blc.heaterDrive = g ∧ t.blc.lastYield = y ∧ t.blc.credits = credits ∧
        n = 2257 * y + t.blc.carry ∧ t.blc.carry < 2257 ∧ (g ≤ 1200 → s.blc.carry < 2257 → y ≤ 233) ∧
        t.blc.produced = s.blc.produced + BitVec.ofNat 32 y ∧ t.blc.state = .ready ∧
        t.blc.pointer = (if y = 0 then s.blc.pointer else s.blc.pointer.next) ∧
        t.snu = s.snu ∧ t.pts = s.pts ∧ t.moc = s.moc ∧ t.pli = s.pli ∧ t.supervisor = s.supervisor ∧
        ∀ b,
          (credits.get b = 0 → t.bsq.get b = s.bsq.get b ∧ t.srs.get b = s.srs.get b ∧ t.oau.get b = s.oau.get b) ∧
          ∀ x, (s.bsq.get b).context = some x → 0 < credits.get b →
            (credits.get b < steamLacking (s.bsq.get b) → t.srs.get b = s.srs.get b ∧ t.oau.get b = s.oau.get b ∧
              t.bsq.get b = { s.bsq.get b with
                context := some { x with delivered := x.delivered + credits.get b } }) ∧
            (credits.get b = steamLacking (s.bsq.get b) →
              (x.index + 1 < x.stepCount → ∃ z, (t.bsq.get b).context = some z ∧ z.index = x.index + 1) ∧
              (x.stepCount ≤ x.index + 1 → ∃ rec posted, (t.oau.get b).records =
                (s.oau.get b).records ++ rec :: posted ∧ rec.result = .done ∧ rec.final = true ∧
                rec.steamDg = some ((x.delivered + credits.get b) / 100)))) ∧
    (s.blc.state ≠ .ready ∨ (∀ b, steaming s b = false) → exec .steamYield s = .next
      { s with
        untaken := { s.untaken with blc := false }
        blc := { s.blc with heaterDrive := g, lastYield := 0, credits := PerBay.fill 0 } })

/-- The credits of a yield: each steaming bay its part by level, rounded down, one milligram of the leftover to the first
steaming bays from the pointer on, and never more than its step still lacks; together no more than the yield, and all of it
where no step lacks less. -/
def Obligations.SteamCreditsShareTheYieldByLevel : Prop :=
  ∀ (y : Nat) (s : State),
    let credits := steamCredits y s
    let share := fun b => y * steamLevel (s.bsq.get b) / steamLevels s
    let left := y - (share .b0 + share .b1 + share .b2 + share .b3)
    let p := s.blc.pointer
    let order := [p, p.next, p.next.next, p.next.next.next].filter (steaming s)
    (∀ b, steaming s b = false → credits.get b = 0) ∧
    (∀ b, steaming s b = true → credits.get b =
      min (share b + if b ∈ order.take left then 1 else 0) (steamLacking (s.bsq.get b))) ∧
    credits.sum ≤ y ∧
    ((∃ b, steaming s b = true) → (∀ b, steaming s b = true → 1 ≤ steamLevel (s.bsq.get b)) →
      left < order.length ∧
      ((∀ b, steaming s b = true → y ≤ steamLacking (s.bsq.get b)) → credits.sum = y))

/-! ### The other readers of a publication -/

/-- HEATER_DRIVE_UPDATE drives each fitted bay's heater at its entry and ends the wait of an output back in AUTO;
NO_POWER_REEVALUATION puts NO_POWER to a started step exactly where it is DRY and the compressor entry is 0, and the step
runs exactly when its set is empty. The untaken marks, and that a reader runs without its mark, are the model's choice (log 13). -/
def Obligations.ReadersTakeThePublication : Prop :=
  ∀ s : State, BaysLaw s →
    (∃ t, exec .heaterDriveUpdate s = .next t ∧
      t = { s with alc := t.alc, untaken := { s.untaken with alc := false } } ∧
      t.alc.compressorDrive = s.alc.compressorDrive ∧
      ∀ b,
        let o := s.alc.bays.get b
        let o' := t.alc.bays.get b
        let q := s.bsq.get b
        (s.fitted.get b = true → o'.drive = s.pae.grants.aux.get b) ∧
        (s.fitted.get b = false → o'.drive = o.drive) ∧ o'.demand = o.demand ∧
        (o.fan.awaiting = false → o'.fan = o.fan) ∧
        (o.fan.awaiting = true → o.fan.mode = .auto → o'.fan = ⟨autoFan q, .auto, o.fan.service, false⟩) ∧
        (o.damper.awaiting = false → o'.damper = o.damper) ∧
        (o.damper.awaiting = true → o.damper.mode = .auto →
          o'.damper = ⟨autoDamper q, .auto, o.damper.service, false⟩) ∧
        (o.osc.awaiting = false → o'.osc = o.osc) ∧
        (o.osc.awaiting = true → o.osc.mode = .auto → o'.osc = ⟨autoOsc q, .auto, o.osc.service, false⟩)) ∧
    ∀ b,
      let q := s.bsq.get b
      (startedCopy q = none → exec (.noPowerReevaluation b) s =
        .next { s with untaken := { s.untaken with bsq := s.untaken.bsq.set b false } }) ∧
      ∀ c, startedCopy q = some c →
        let holds := { q.holds with noPower := decide (c.kind = .dry ∧ s.pae.grants.compressor = 0) }
        ∃ t, exec (.noPowerReevaluation b) s = .next t ∧ (t.bsq.get b).holds = holds ∧
          (t.bsq.get b).state = (if holds = HoldSet.empty then .running else .held) ∧
          (holds ≠ HoldSet.empty → q.state = .running → t.pae.grants.aux.get b = 0 ∧ (t.alc.bays.get b).drive = 0) ∧
          t.srs = s.srs ∧ t.oau = s.oau ∧ t.snu = s.snu ∧ t.pts = s.pts ∧ t.moc = s.moc ∧ t.pli = s.pli ∧
          t.supervisor = s.supervisor ∧
          ∀ d, d ≠ b → t.bsq.get d = s.bsq.get d ∧ t.panels.get d = s.panels.get d ∧
            t.alc.bays.get d = s.alc.bays.get d

/-! ### Sensing -/

/-- A sample of a switch moves its filter as R132 states and no other input; a sample that makes no filtered transition reaches
no consumer. An unsampled switch, and any in SLEEP, is not sampled. -/
def Obligations.SwitchSampleFiltersByThreeAgreeing : Prop :=
  ∀ (sw : Switch) (level : Bool) (s : State),
    let f := switchOf s.snu sw
    let n := if level = f.raw then min 3 (f.run + 1) else 1
    (s.moc.phase = .sleep ∨ switchFitted s sw = false → exec (.switchSample sw level) s = .next s) ∧
    (s.moc.phase ≠ .sleep → switchFitted s sw = true →
      ∃ t, exec (.switchSample sw level) s = .next t ∧
        switchOf t.snu sw = ⟨level, level, if n = 3 then level else f.filtered, n, f.confirmed || decide (n = 3)⟩ ∧
        (∀ other, other ≠ sw → switchOf t.snu other = switchOf s.snu other) ∧
        t.snu.temps = s.snu.temps ∧ t.snu.hums = s.snu.hums ∧ t.snu.boilerTemp = s.snu.boilerTemp ∧
        t.snu.switchTimer = s.snu.switchTimer ∧ t.snu.analogTimer = s.snu.analogTimer ∧
        (n ≠ 3 ∨ f.filtered = level → t = { s with snu := t.snu }) ∧
        t.moc = s.moc ∧ t.pli = s.pli ∧ t.pts = s.pts ∧ t.srs = s.srs ∧ t.oau = s.oau ∧ t.fitted = s.fitted ∧
        t.pending = s.pending)

/-- What the consumers do in the event of each filtered transition (every cell of the table of R133). -/
def Obligations.SwitchTransitionsReachTheirConsumers : Prop :=
  ∀ (sw : Switch) (level : Bool) (s : State), BaysLaw s → s.moc.phase ≠ .sleep → switchFitted s sw = true →
    (switchOf s.snu sw).filtered ≠ level → (switchOf s.snu sw).raw = level → 2 ≤ (switchOf s.snu sw).run →
    let towards : BoilerState := if s.snu.freshEmpty.filtered then .starved else .fill
    let heating : BoilerState := if boilerTempIs (fun v => decide (102 ≤ v)) s then .ready else .heat
    let mayStart := steamWanted s = true ∧ s.snu.boilerTemp.state = .valid ∧ s.moc.pumpMode = .auto
    ∃ t, exec (.switchSample sw level) s = .next t ∧ (switchOf t.snu sw).filtered = level ∧
      (∀ b, sw = .front b →
        (t.blc.valves.get b = true ↔ level = false ∧ s.blc.state = .ready ∧
          ∃ c, runningCopy (t.bsq.get b) = some c ∧ c.kind = .steam) ∧
        (∀ c, startedCopy (s.bsq.get b) = some c →
          (t.bsq.get b).holds = { (s.bsq.get b).holds with frontOpen := level && !c.openOk } ∧
          (t.bsq.get b).state = (if (t.bsq.get b).holds = HoldSet.empty then .running else .held) ∧
          (level = true → c.openOk = false → (t.bsq.get b).state = .held) ∧
          ((t.bsq.get b).holds = (s.bsq.get b).holds →
            t.bsq = s.bsq ∧ t.alc = s.alc ∧ t.pae = s.pae ∧ t.panels = s.panels)) ∧
        (startedCopy (s.bsq.get b) = none → t.bsq = s.bsq) ∧ t.blc = { s.blc with valves := t.blc.valves } ∧
        t.pae.compressorOn = s.pae.compressorOn ∧ t.supervisor = s.supervisor ∧
        ∀ d, d ≠ b → t.bsq.get d = s.bsq.get d ∧ t.panels.get d = s.panels.get d ∧
          t.blc.valves.get d = s.blc.valves.get d) ∧
      (sw = .boilerWaterOk →
        (level = true →
          (s.blc.state = .fill → t.blc.state = heating) ∧
          (s.blc.state = .cold → t.blc.state =
            if mayStart ∧ s.snu.boilerCutout.filtered = false then heating else .cold) ∧
          (s.blc.state ≠ .fill → s.blc.state ≠ .cold → t = { s with snu := t.snu })) ∧
        (level = false →
          (s.blc.state = .heat ∨ s.blc.state = .ready → t.blc.state = towards ∧ t.pae.grants.boiler = 0) ∧
          (s.blc.state ≠ .heat → s.blc.state ≠ .ready → t = { s with snu := t.snu }))) ∧
      (sw = .boilerCutout →
        (level = true →
          t.blc.state = .locked ∧ t.blc.cause = if s.blc.state = .locked then s.blc.cause else .cutout) ∧
        (level = false → t.blc.cause = s.blc.cause ∧ t.blc.state =
          if s.blc.state = .cold ∧ mayStart then if s.snu.boilerWaterOk.filtered then heating else towards
          else s.blc.state)) ∧
      (sw = .freshLow →
        (level = true → t.supervisor.pending = s.supervisor.pending ||| 0x0010#16) ∧
        (level = false → t.supervisor = s.supervisor) ∧
        t = { s with snu := t.snu, supervisor := t.supervisor }) ∧
      (sw = .freshEmpty →
        (level = true → t.supervisor.pending &&& 0x0020#16 ≠ 0#16 ∧
          t.blc.state = if s.blc.state = .fill then .starved else s.blc.state) ∧
        (level = false → t.blc.state =
          if s.blc.state = .starved ∧ s.moc.pumpMode = .auto then .fill else s.blc.state)) ∧
      (sw = .condFull →
        (level = true → t.supervisor.pending = s.supervisor.pending ||| 0x0040#16 ∧ t.pae.compressorOn = false ∧
          (s.pae.compressorOn = true →
            t.pae.minOff = 0 ∧ t.pae.grants.compressor = 0 ∧ t.alc.compressorDrive = false) ∧
          (s.pae.compressorOn = false → t.pae.minOff = s.pae.minOff ∧
            t.pae.grants.compressor = s.pae.grants.compressor ∧ t.alc.compressorDrive = s.alc.compressorDrive)) ∧
        (level = false → t.supervisor = s.supervisor ∧ t.pae.compressorOn = s.pae.compressorOn ∧
          t.pae.minOff = s.pae.minOff ∧ t.pae.grants.compressor = s.pae.grants.compressor) ∧
        t.blc.state = s.blc.state ∧
        ∀ b,
          (startedCopy (s.bsq.get b) = none → t.bsq.get b = s.bsq.get b) ∧
          ∀ c, startedCopy (s.bsq.get b) = some c →
            (t.bsq.get b).holds = { (s.bsq.get b).holds with
              tankFull := level && decide (c.kind = .steam ∨ c.kind = .dry)
              noPower := if level = true ∧ s.pae.compressorOn = true then decide (c.kind = .dry)
                else (s.bsq.get b).holds.noPower } ∧
            (t.bsq.get b).state = if (t.bsq.get b).holds = HoldSet.empty then .running else .held)

/-- A conversion of a sampled channel: the value of its code (R136) and the channel's move (R137), with SENSOR_FAULT where it
goes to FAULT; no other input changes. -/
def Obligations.AnalogSampleMovesItsChannel : Prop :=
  ∀ (ch : Analog) (raw : BitVec 10) (s : State),
    let c := channelOf s.snu ch
    let value : Option Nat := match ch with
      | .bayTemperature _ => if 100 ≤ raw.toNat ∧ raw.toNat ≤ 820 then some ((raw.toNat - 100) / 8) else none
      | .bayHumidity _ => if 100 ≤ raw.toNat ∧ raw.toNat ≤ 900 then some ((raw.toNat - 100) / 8) else none
      | .boilerTemperature => if 64 ≤ raw.toNat ∧ raw.toNat ≤ 999 then some ((raw.toNat - 64) / 5) else none
    (s.moc.phase = .sleep ∨ channelFitted s ch = false → exec (.analogSample ch raw) s = .next s) ∧
    (s.moc.phase ≠ .sleep → channelFitted s ch = true →
      ∃ t, exec (.analogSample ch raw) s = .next t ∧
        let d := channelOf t.snu ch
        d.pin = raw ∧ d.rawCode = some raw ∧
        (∀ v, value = some v → d.last = some v ∧
          (c.state ≠ .fault → d.state = .valid ∧ (c.state ≠ .valid → d.invalidRun = 0)) ∧
          (c.state = .fault → d.invalidRun = 0 ∧
            (c.validRun < 2 → d.state = .fault ∧ d.validRun = c.validRun + 1) ∧
            (2 ≤ c.validRun → d.state = .valid ∧ d.validRun = 0))) ∧
        (value = none → d.last = c.last ∧
          (c.state = .valid → d.state = .stale ∧ d.invalidRun = 1) ∧
          (c.state = .unknown ∨ c.state = .stale → d.invalidRun = min 5 (c.invalidRun + 1) ∧
            (c.invalidRun < 4 → d.state = c.state) ∧
            (4 ≤ c.invalidRun → d.state = .fault ∧ t.supervisor.pending &&& 0x0080#16 ≠ 0#16)) ∧
          (c.state = .fault → d.state = .fault ∧ d.validRun = 0)) ∧
        (∀ other, other ≠ ch → channelOf t.snu other = channelOf s.snu other) ∧
        (∀ sw, switchOf t.snu sw = switchOf s.snu sw) ∧
        t.moc = s.moc ∧ t.pli = s.pli ∧ t.pts = s.pts ∧ t.fitted = s.fitted ∧ t.pending = s.pending)

/-- What a conversion does to its consumers: a bay channel reaching FAULT parks or marks its bay; a VALID bay temperature forms
the heater demand anew and, at the limit, withdraws the grant; a COOL or DRY goal counts satisfied samples; the boiler
thresholds and the boiler channel's FAULT move the boiler. A conversion that leaves a channel STALE sets the count to 0, the
heater demand to 0, withdraws the grant as the channel leaves VALID, and is not compared with any boiler threshold. -/
def Obligations.ConversionsReachTheirConsumers : Prop :=
  ∀ (raw : BitVec 10) (s : State), s.moc.phase ≠ .sleep →
    let fails := fun (c : Channel) => (c.state = .unknown ∨ c.state = .stale) ∧ 4 ≤ c.invalidRun
    (∀ b ch, ch = .bayTemperature b ∨ ch = .bayHumidity b → s.fitted.get b = true → convert ch raw = none →
      fails (channelOf s.snu ch) →
      ∃ t, exec (.analogSample ch raw) s = .next t ∧
        (inProgress (s.bsq.get b) = true →
          (t.bsq.get b).state = .parking ∧ (t.bsq.get b).faultAfterPark = true ∧ (t.bsq.get b).context =
            (s.bsq.get b).context.map (fun x => { x with pendingResult := some .faulted })) ∧
        ((s.bsq.get b).state = .parking → t.bsq.get b = { s.bsq.get b with faultAfterPark := true })) ∧
    (∀ b v k x, s.fitted.get b = true → runningCopy (s.bsq.get b) = some k → (s.bsq.get b).context = some x →
      (∀ ch, (ch = .bayTemperature b ∧ k.kind = .cool) ∨ (ch = .bayHumidity b ∧ k.kind = .dry) →
        convert ch raw = some v → (channelOf s.snu ch).state ≠ .fault →
        ∃ t, exec (.analogSample ch raw) s = .next t ∧
          (∀ goal, k.goalGiven = true → k.target = some goal →
            (goal < v → (t.bsq.get b).context = some { x with satisfied := 0 }) ∧
            (v ≤ goal → x.satisfied < 2 →
              (t.bsq.get b).context = some { x with satisfied := x.satisfied + 1 }) ∧
            (v ≤ goal → 2 ≤ x.satisfied → x.stepCount ≤ x.index + 1 → ∃ rec posted,
              (t.oau.get b).records = (s.oau.get b).records ++ rec :: posted ∧ rec.result = .done ∧
              rec.final = true)) ∧
          (k.goalGiven = false → t.bsq.get b = s.bsq.get b)) ∧
      (∀ limit, k.kind = .dry ∨ k.kind = .refresh → k.tempLimit = some limit →
        convert (.bayTemperature b) raw = some v → (s.snu.temps.get b).state ≠ .fault →
        ∃ t, exec (.analogSample (.bayTemperature b) raw) s = .next t ∧
          (t.alc.bays.get b).demand = 50 * min (limit - v) k.level ∧
          (limit ≤ v → t.pae.grants.aux.get b = 0 ∧ (t.alc.bays.get b).drive = 0))) ∧
    (∀ v, convert .boilerTemperature raw = some v → s.snu.boilerTemp.state = .valid →
      ∃ t, exec (.analogSample .boilerTemperature raw) s = .next t ∧
        (150 ≤ v → s.blc.state ≠ .locked → t.blc.state = .locked ∧ t.blc.cause = .overTemperature) ∧
        (v < 150 → t.blc.state =
          if s.blc.state = .heat ∧ 102 ≤ v then .ready else if s.blc.state = .ready ∧ v < 96 then .heat
          else s.blc.state)) ∧
    (convert .boilerTemperature raw = none → fails s.snu.boilerTemp →
      ∃ t, exec (.analogSample .boilerTemperature raw) s = .next t ∧ t.blc.state = .locked ∧
        t.blc.cause = if s.blc.state = .locked then s.blc.cause else .sensor) ∧
    (∀ ch, channelFitted s ch = true → convert ch raw = none →
      (channelOf s.snu ch).state = .valid ∨ ((channelOf s.snu ch).state = .stale ∧ (channelOf s.snu ch).invalidRun < 4) →
      ∃ t, exec (.analogSample ch raw) s = .next t ∧ (channelOf t.snu ch).state = .stale ∧
        (ch = .boilerTemperature → t = { s with snu := t.snu }) ∧
        (∀ b, ch = .bayTemperature b ∨ ch = .bayHumidity b →
          let q := s.bsq.get b
          let compared := fun (k : StepCopy) => k.goalGiven = true ∧ k.target.isSome = true ∧
            ((ch = .bayTemperature b ∧ k.kind = .cool) ∨ (ch = .bayHumidity b ∧ k.kind = .dry))
          (∀ k x, runningCopy q = some k → q.context = some x → compared k →
            t.bsq = s.bsq.set b { q with context := some { x with satisfied := 0 } }) ∧
          (runningCopy q = none ∨ (∃ k, runningCopy q = some k ∧ ¬ compared k) → t.bsq = s.bsq) ∧
          (ch = .bayTemperature b →
            (t.alc.bays.get b).demand = 0 ∧
            ((channelOf s.snu ch).state = .valid → (t.alc.bays.get b).drive = 0 ∧
              t.pae = { s.pae with grants := { s.pae.grants with
                aux := s.pae.grants.aux.set b 0
                class2 := s.pae.grants.class2 - s.pae.grants.aux.get b
                unallotted := s.pae.grants.unallotted + s.pae.grants.aux.get b } })) ∧
          (ch = .bayHumidity b → t.alc = s.alc ∧ t.pae = s.pae) ∧
          t.srs = s.srs ∧ t.oau = s.oau ∧ t.blc = s.blc ∧ t.panels = s.panels ∧ t.supervisor = s.supervisor))

/-! ### The profile table and its store -/

/-- PROFILE_WRITE makes its slot EMPTY or VALID with the six values clamped into their ranges, leaves every other slot, and sets
the dirty flag; a state code outside its table is refused. -/
def Obligations.ProfileWriteReplacesItsSlot : Prop :=
  ∀ (noise : Bool) (slot state : Byte) (v : ProfileValues) (s : State), Awake s → slot.toNat ≤ 15 →
    let h := heard .supervisor s
    let written := fun (p : Option Profile) =>
      { h.pts with table := h.pts.table.setIfInBounds slot.toNat p, dirty := true }
    let answer := fun (p : Option Profile) =>
      exec (.profileWrite .supervisor noise slot state v) s = .next
        (respond .supervisor 0x10#8 noise ⟨.ack, [slot] ++ profileBytes p ++ commitBytes (written p)⟩
          { h with pts := written p })
    (state = 0x00#8 → answer none) ∧
    (state = 0x01#8 → answer (some
      { maxAirTemp := min 70 (max 30 v.maxAirTemp.toNat), maxDose := min 400 v.maxDose.toNat
        maxFan := min 8 (max 1 v.maxFan.toNat), maxOsc := min 120 v.maxOsc.toNat
        dryFloor := min 80 (max 20 v.dryFloor.toNat), maxStep := min 3600 (max 60 v.maxStep.toNat) })) ∧
    (state ≠ 0x00#8 → state ≠ 0x01#8 → exec (.profileWrite .supervisor noise slot state v) s =
      .next (respond .supervisor 0x10#8 noise ⟨.nak .valueBad, []⟩ h)) ∧
    ∀ p, (written p).table[slot.toNat]? = some p ∧
      ∀ i : Nat, i ≠ slot.toNat → (written p).table[i]? = s.pts.table[i]?

/-- PROFILE_COMMIT in IDLE takes the snapshot, invalidates the marker and starts ERASING, and elsewhere is refused; each phase
ends as the table of R163 has it, in success with the store holding the snapshot and STORE_DONE, or in FAIL with
STORE_FAULT. What the store holds at the end of each phase is the model's reading (log 19), and that the re-erase and rewrite
indications stay set when a commit ends is its choice (log 29). -/
def Obligations.CommitGoesThroughItsPhases : Prop :=
  ∀ (noise pass : Bool) (s : State),
    let p := s.pts
    (Awake s →
      let h := heard .supervisor s
      let begun := { p with
        snapshot := some p.table, dirty := false, reErased := false, rewritten := false, marker := false
        phase := .erasing, phaseTimer := 0 }
      (p.phase = .idle → exec (.profileCommit .supervisor noise) s = .next
        (respond .supervisor 0x11#8 noise ⟨.ack, commitBytes begun⟩ { h with pts := begun })) ∧
      (p.phase ≠ .idle → exec (.profileCommit .supervisor noise) s = .next
        (respond .supervisor 0x11#8 noise ⟨.nak .storeBusy, commitBytes p⟩ h))) ∧
    let goes := fun (x : Pts) =>
      exec (.commitPhaseEnd pass) s = .next { s with pts := { x with phaseTimer := 0 } }
    let ends := fun (x : Pts) (bits : Half) =>
      exec (.commitPhaseEnd pass) s = .next
        { s with
          pts := { x with phase := .idle, phaseTimer := 0, snapshot := none }
          supervisor := { s.supervisor with
            pending := s.supervisor.pending ||| bits
            line := (s.supervisor.pending ||| bits) &&& s.supervisor.mask != 0#16 } }
    (p.phase = .idle → exec (.commitPhaseEnd pass) s = .next s) ∧
    (p.phase = .erasing → goes { p with phase := .checking, store := none }) ∧
    (p.phase = .checking → pass = true → goes { p with phase := .writing }) ∧
    (p.phase = .checking → pass = false → p.reErased = false → goes { p with phase := .erasing, reErased := true }) ∧
    (p.phase = .checking → pass = false → p.reErased = true →
      ends { p with lastResult := .fail, dirty := true } 0x0400#16) ∧
    (p.phase = .writing → goes { p with phase := .verifying, store := p.snapshot }) ∧
    (p.phase = .verifying → pass = true → goes { p with phase := .marking }) ∧
    (p.phase = .verifying → pass = false → p.rewritten = false →
      goes { p with phase := .writing, rewritten := true }) ∧
    (p.phase = .verifying → pass = false → p.rewritten = true →
      ends { p with lastResult := .fail, dirty := true } 0x0400#16) ∧
    (p.phase = .marking → ends { p with lastResult := .done, marker := true, store := p.snapshot } 0x0200#16)

/-! ### What every step keeps -/

/-- The attention lines follow sets and masks, and an unfitted bay stays empty and ABSENT. -/
def Obligations.LinesAndUnfittedBaysAreKept : Prop :=
  KeptByStep LineLaw ∧ KeptByStep UnfittedLaw

/-- Programs, hold sets, step rings and outcome rings stay in step: states with contexts, counts with records, the admitted
part with the program, and records, reservation and promise within eight. -/
def Obligations.ProgramsAndRingsStayInStep : Prop :=
  KeptByStep OutcomesLaw ∧
  KeptByStep (fun s => ∀ b, CopiesLaw (s.bsq.get b)) ∧
  KeptByStep (fun s => BaysLaw s ∧ RingsLaw s ∧ EntriesLaw s)

/-- The power laws: B and E in their ranges, totals as sums, the compressor's drive and grant with its run state and only in
RUN with the tank not full, and fan levels to 8. -/
def Obligations.PowerLawsAreKept : Prop :=
  KeptByStep BudgetLaw ∧ KeptByStep TotalsLaw ∧ KeptByStep CompressorLaw ∧ KeptByStep FanLaw

/-- The boiler and heat laws: COLD or LOCKED outside RUN, the carry below 2257 and 0 unless READY, no boiler grant unless hot,
valves open only while steaming, and no auxiliary grant or drive unless RUNNING, VALID and below the limit; the laws that read a
step's copy go with the law that each program has one for each step. -/
def Obligations.BoilerAndHeatLawsAreKept : Prop :=
  KeptByStep CarryLaw ∧ KeptByStep BoilerGrantLaw ∧
  KeptByStep (fun s => BoilerRestLaw s ∧ ValveLaw s ∧ ∀ b, CopiesLaw (s.bsq.get b)) ∧
  KeptByStep (fun s => BaysLaw s ∧ AsleepLaw s ∧ HeaterLaw s ∧ ∀ b, CopiesLaw (s.bsq.get b))
end

