-- ==== Sys2Proof/Laws/State.lean ====
section
/-! SUPPORT. One lemma per field per update: what each plain operation leaves of each block of the state, true by rfl. -/

namespace Sys2Proof

/-! ### One value per bay -/

namespace PerBay

variable {α β : Type}

@[simp] theorem get_set_same (p : PerBay α) (b : Bay) (a : α) : (p.set b a).get b = a := by cases b <;> rfl

@[simp] theorem get_set_other (p : PerBay α) {b c : Bay} (a : α) (h : c ≠ b) : (p.set b a).get c = p.get c := by
  cases b <;> cases c <;> first | rfl | exact absurd rfl h

theorem get_set (p : PerBay α) (b c : Bay) (a : α) : (p.set b a).get c = if c = b then a else p.get c := by
  by_cases h : c = b
  · subst h; simp
  · simp [h]

@[simp] theorem set_get (p : PerBay α) (b : Bay) : p.set b (p.get b) = p := by cases b <;> rfl

@[simp] theorem set_set (p : PerBay α) (b : Bay) (a c : α) : (p.set b a).set b c = p.set b c := by cases b <;> rfl

@[simp] theorem get_map (f : α → β) (p : PerBay α) (b : Bay) : (p.map f).get b = f (p.get b) := by cases b <;> rfl

@[simp] theorem get_ofFn (f : Bay → α) (b : Bay) : (ofFn f).get b = f b := by cases b <;> rfl

@[simp] theorem get_fill (a : α) (b : Bay) : (fill a).get b = a := by cases b <;> rfl

theorem ext_get {p q : PerBay α} (h : ∀ b, p.get b = q.get b) : p = q := by
  cases p; cases q
  congr
  · exact h .b0
  · exact h .b1
  · exact h .b2
  · exact h .b3

end PerBay

/-- The sum after one bay's number is replaced. -/
theorem PerBay.sum_set (p : PerBay Nat) (b : Bay) (n : Nat) : (p.set b n).sum + p.get b = p.sum + n := by
  cases b <;> simp [PerBay.sum, PerBay.set, PerBay.get] <;> omega

end Sys2Proof

namespace Sys2Proof.Machine

/-! ### Replacing a bay's part of a block -/

@[simp] theorem setBsq_pending (b : Bay) (q : Bsq) (s : State) : (setBsq b q s).pending = s.pending := rfl
@[simp] theorem setBsq_fitted (b : Bay) (q : Bsq) (s : State) : (setBsq b q s).fitted = s.fitted := rfl
@[simp] theorem setBsq_moc (b : Bay) (q : Bsq) (s : State) : (setBsq b q s).moc = s.moc := rfl
@[simp] theorem setBsq_pli (b : Bay) (q : Bsq) (s : State) : (setBsq b q s).pli = s.pli := rfl
@[simp] theorem setBsq_supervisor (b : Bay) (q : Bsq) (s : State) : (setBsq b q s).supervisor = s.supervisor := rfl
@[simp] theorem setBsq_panels (b : Bay) (q : Bsq) (s : State) : (setBsq b q s).panels = s.panels := rfl
@[simp] theorem setBsq_srs (b : Bay) (q : Bsq) (s : State) : (setBsq b q s).srs = s.srs := rfl
@[simp] theorem setBsq_oau (b : Bay) (q : Bsq) (s : State) : (setBsq b q s).oau = s.oau := rfl
@[simp] theorem setBsq_pae (b : Bay) (q : Bsq) (s : State) : (setBsq b q s).pae = s.pae := rfl
@[simp] theorem setBsq_untaken (b : Bay) (q : Bsq) (s : State) : (setBsq b q s).untaken = s.untaken := rfl
@[simp] theorem setBsq_blc (b : Bay) (q : Bsq) (s : State) : (setBsq b q s).blc = s.blc := rfl
@[simp] theorem setBsq_alc (b : Bay) (q : Bsq) (s : State) : (setBsq b q s).alc = s.alc := rfl
@[simp] theorem setBsq_snu (b : Bay) (q : Bsq) (s : State) : (setBsq b q s).snu = s.snu := rfl
@[simp] theorem setBsq_pts (b : Bay) (q : Bsq) (s : State) : (setBsq b q s).pts = s.pts := rfl
@[simp] theorem setBsq_freeCount (b : Bay) (q : Bsq) (s : State) : (setBsq b q s).freeCount = s.freeCount := rfl

@[simp] theorem setBsq_bsq (b : Bay) (q : Bsq) (s : State) : (setBsq b q s).bsq = s.bsq.set b q := rfl

@[simp] theorem setRing_pending (b : Bay) (r : StepRing) (s : State) : (setRing b r s).pending = s.pending := rfl
@[simp] theorem setRing_fitted (b : Bay) (r : StepRing) (s : State) : (setRing b r s).fitted = s.fitted := rfl
@[simp] theorem setRing_moc (b : Bay) (r : StepRing) (s : State) : (setRing b r s).moc = s.moc := rfl
@[simp] theorem setRing_pli (b : Bay) (r : StepRing) (s : State) : (setRing b r s).pli = s.pli := rfl
@[simp] theorem setRing_supervisor (b : Bay) (r : StepRing) (s : State) : (setRing b r s).supervisor = s.supervisor := rfl
@[simp] theorem setRing_panels (b : Bay) (r : StepRing) (s : State) : (setRing b r s).panels = s.panels := rfl
@[simp] theorem setRing_bsq (b : Bay) (r : StepRing) (s : State) : (setRing b r s).bsq = s.bsq := rfl
@[simp] theorem setRing_oau (b : Bay) (r : StepRing) (s : State) : (setRing b r s).oau = s.oau := rfl
@[simp] theorem setRing_pae (b : Bay) (r : StepRing) (s : State) : (setRing b r s).pae = s.pae := rfl
@[simp] theorem setRing_untaken (b : Bay) (r : StepRing) (s : State) : (setRing b r s).untaken = s.untaken := rfl
@[simp] theorem setRing_blc (b : Bay) (r : StepRing) (s : State) : (setRing b r s).blc = s.blc := rfl
@[simp] theorem setRing_alc (b : Bay) (r : StepRing) (s : State) : (setRing b r s).alc = s.alc := rfl
@[simp] theorem setRing_snu (b : Bay) (r : StepRing) (s : State) : (setRing b r s).snu = s.snu := rfl
@[simp] theorem setRing_pts (b : Bay) (r : StepRing) (s : State) : (setRing b r s).pts = s.pts := rfl
@[simp] theorem setRing_freeCount (b : Bay) (r : StepRing) (s : State) : (setRing b r s).freeCount = s.freeCount := rfl

@[simp] theorem setRing_srs (b : Bay) (r : StepRing) (s : State) : (setRing b r s).srs = s.srs.set b r := rfl

@[simp] theorem setOutcomes_pending (b : Bay) (o : OutcomeRing) (s : State) : (setOutcomes b o s).pending = s.pending := rfl
@[simp] theorem setOutcomes_fitted (b : Bay) (o : OutcomeRing) (s : State) : (setOutcomes b o s).fitted = s.fitted := rfl
@[simp] theorem setOutcomes_moc (b : Bay) (o : OutcomeRing) (s : State) : (setOutcomes b o s).moc = s.moc := rfl
@[simp] theorem setOutcomes_pli (b : Bay) (o : OutcomeRing) (s : State) : (setOutcomes b o s).pli = s.pli := rfl
@[simp] theorem setOutcomes_supervisor (b : Bay) (o : OutcomeRing) (s : State) : (setOutcomes b o s).supervisor = s.supervisor := rfl
@[simp] theorem setOutcomes_panels (b : Bay) (o : OutcomeRing) (s : State) : (setOutcomes b o s).panels = s.panels := rfl
@[simp] theorem setOutcomes_srs (b : Bay) (o : OutcomeRing) (s : State) : (setOutcomes b o s).srs = s.srs := rfl
@[simp] theorem setOutcomes_bsq (b : Bay) (o : OutcomeRing) (s : State) : (setOutcomes b o s).bsq = s.bsq := rfl
@[simp] theorem setOutcomes_pae (b : Bay) (o : OutcomeRing) (s : State) : (setOutcomes b o s).pae = s.pae := rfl
@[simp] theorem setOutcomes_untaken (b : Bay) (o : OutcomeRing) (s : State) : (setOutcomes b o s).untaken = s.untaken := rfl
@[simp] theorem setOutcomes_blc (b : Bay) (o : OutcomeRing) (s : State) : (setOutcomes b o s).blc = s.blc := rfl
@[simp] theorem setOutcomes_alc (b : Bay) (o : OutcomeRing) (s : State) : (setOutcomes b o s).alc = s.alc := rfl
@[simp] theorem setOutcomes_snu (b : Bay) (o : OutcomeRing) (s : State) : (setOutcomes b o s).snu = s.snu := rfl
@[simp] theorem setOutcomes_pts (b : Bay) (o : OutcomeRing) (s : State) : (setOutcomes b o s).pts = s.pts := rfl
@[simp] theorem setOutcomes_freeCount (b : Bay) (o : OutcomeRing) (s : State) : (setOutcomes b o s).freeCount = s.freeCount := rfl

@[simp] theorem setOutcomes_oau (b : Bay) (o : OutcomeRing) (s : State) :
    (setOutcomes b o s).oau = s.oau.set b o := rfl

@[simp] theorem setOutputs_pending (b : Bay) (o : BayOutputs) (s : State) : (setOutputs b o s).pending = s.pending := rfl
@[simp] theorem setOutputs_fitted (b : Bay) (o : BayOutputs) (s : State) : (setOutputs b o s).fitted = s.fitted := rfl
@[simp] theorem setOutputs_moc (b : Bay) (o : BayOutputs) (s : State) : (setOutputs b o s).moc = s.moc := rfl
@[simp] theorem setOutputs_pli (b : Bay) (o : BayOutputs) (s : State) : (setOutputs b o s).pli = s.pli := rfl
@[simp] theorem setOutputs_supervisor (b : Bay) (o : BayOutputs) (s : State) : (setOutputs b o s).supervisor = s.supervisor := rfl
@[simp] theorem setOutputs_panels (b : Bay) (o : BayOutputs) (s : State) : (setOutputs b o s).panels = s.panels := rfl
@[simp] theorem setOutputs_srs (b : Bay) (o : BayOutputs) (s : State) : (setOutputs b o s).srs = s.srs := rfl
@[simp] theorem setOutputs_bsq (b : Bay) (o : BayOutputs) (s : State) : (setOutputs b o s).bsq = s.bsq := rfl
@[simp] theorem setOutputs_oau (b : Bay) (o : BayOutputs) (s : State) : (setOutputs b o s).oau = s.oau := rfl
@[simp] theorem setOutputs_pae (b : Bay) (o : BayOutputs) (s : State) : (setOutputs b o s).pae = s.pae := rfl
@[simp] theorem setOutputs_untaken (b : Bay) (o : BayOutputs) (s : State) : (setOutputs b o s).untaken = s.untaken := rfl
@[simp] theorem setOutputs_blc (b : Bay) (o : BayOutputs) (s : State) : (setOutputs b o s).blc = s.blc := rfl
@[simp] theorem setOutputs_snu (b : Bay) (o : BayOutputs) (s : State) : (setOutputs b o s).snu = s.snu := rfl
@[simp] theorem setOutputs_pts (b : Bay) (o : BayOutputs) (s : State) : (setOutputs b o s).pts = s.pts := rfl
@[simp] theorem setOutputs_freeCount (b : Bay) (o : BayOutputs) (s : State) : (setOutputs b o s).freeCount = s.freeCount := rfl

@[simp] theorem setOutputs_bays (b : Bay) (o : BayOutputs) (s : State) :
    (setOutputs b o s).alc.bays = s.alc.bays.set b o := rfl

@[simp] theorem setOutputs_compressorDrive (b : Bay) (o : BayOutputs) (s : State) :
    (setOutputs b o s).alc.compressorDrive = s.alc.compressorDrive := rfl

@[simp] theorem setContext_pending (b : Bay) (c : Option Context) (s : State) : (setContext b c s).pending = s.pending := rfl
@[simp] theorem setContext_fitted (b : Bay) (c : Option Context) (s : State) : (setContext b c s).fitted = s.fitted := rfl
@[simp] theorem setContext_moc (b : Bay) (c : Option Context) (s : State) : (setContext b c s).moc = s.moc := rfl
@[simp] theorem setContext_pli (b : Bay) (c : Option Context) (s : State) : (setContext b c s).pli = s.pli := rfl
@[simp] theorem setContext_supervisor (b : Bay) (c : Option Context) (s : State) : (setContext b c s).supervisor = s.supervisor := rfl
@[simp] theorem setContext_panels (b : Bay) (c : Option Context) (s : State) : (setContext b c s).panels = s.panels := rfl
@[simp] theorem setContext_srs (b : Bay) (c : Option Context) (s : State) : (setContext b c s).srs = s.srs := rfl
@[simp] theorem setContext_oau (b : Bay) (c : Option Context) (s : State) : (setContext b c s).oau = s.oau := rfl
@[simp] theorem setContext_pae (b : Bay) (c : Option Context) (s : State) : (setContext b c s).pae = s.pae := rfl
@[simp] theorem setContext_untaken (b : Bay) (c : Option Context) (s : State) : (setContext b c s).untaken = s.untaken := rfl
@[simp] theorem setContext_blc (b : Bay) (c : Option Context) (s : State) : (setContext b c s).blc = s.blc := rfl
@[simp] theorem setContext_alc (b : Bay) (c : Option Context) (s : State) : (setContext b c s).alc = s.alc := rfl
@[simp] theorem setContext_snu (b : Bay) (c : Option Context) (s : State) : (setContext b c s).snu = s.snu := rfl
@[simp] theorem setContext_pts (b : Bay) (c : Option Context) (s : State) : (setContext b c s).pts = s.pts := rfl
@[simp] theorem setContext_freeCount (b : Bay) (c : Option Context) (s : State) : (setContext b c s).freeCount = s.freeCount := rfl

@[simp] theorem removeHead_pending (b : Bay) (n : Nat) (s : State) : (removeHead b n s).pending = s.pending := rfl
@[simp] theorem removeHead_fitted (b : Bay) (n : Nat) (s : State) : (removeHead b n s).fitted = s.fitted := rfl
@[simp] theorem removeHead_moc (b : Bay) (n : Nat) (s : State) : (removeHead b n s).moc = s.moc := rfl
@[simp] theorem removeHead_pli (b : Bay) (n : Nat) (s : State) : (removeHead b n s).pli = s.pli := rfl
@[simp] theorem removeHead_supervisor (b : Bay) (n : Nat) (s : State) : (removeHead b n s).supervisor = s.supervisor := rfl
@[simp] theorem removeHead_panels (b : Bay) (n : Nat) (s : State) : (removeHead b n s).panels = s.panels := rfl
@[simp] theorem removeHead_bsq (b : Bay) (n : Nat) (s : State) : (removeHead b n s).bsq = s.bsq := rfl
@[simp] theorem removeHead_oau (b : Bay) (n : Nat) (s : State) : (removeHead b n s).oau = s.oau := rfl
@[simp] theorem removeHead_pae (b : Bay) (n : Nat) (s : State) : (removeHead b n s).pae = s.pae := rfl
@[simp] theorem removeHead_untaken (b : Bay) (n : Nat) (s : State) : (removeHead b n s).untaken = s.untaken := rfl
@[simp] theorem removeHead_blc (b : Bay) (n : Nat) (s : State) : (removeHead b n s).blc = s.blc := rfl
@[simp] theorem removeHead_alc (b : Bay) (n : Nat) (s : State) : (removeHead b n s).alc = s.alc := rfl
@[simp] theorem removeHead_snu (b : Bay) (n : Nat) (s : State) : (removeHead b n s).snu = s.snu := rfl
@[simp] theorem removeHead_pts (b : Bay) (n : Nat) (s : State) : (removeHead b n s).pts = s.pts := rfl
@[simp] theorem removeHead_freeCount (b : Bay) (n : Nat) (s : State) : (removeHead b n s).freeCount = s.freeCount := rfl

/-! ### Events -/

@[simp] theorem raiseSup_pending (e : SupEvent) (s : State) : (raiseSup e s).pending = s.pending := rfl
@[simp] theorem raiseSup_fitted (e : SupEvent) (s : State) : (raiseSup e s).fitted = s.fitted := rfl
@[simp] theorem raiseSup_moc (e : SupEvent) (s : State) : (raiseSup e s).moc = s.moc := rfl
@[simp] theorem raiseSup_pli (e : SupEvent) (s : State) : (raiseSup e s).pli = s.pli := rfl
@[simp] theorem raiseSup_panels (e : SupEvent) (s : State) : (raiseSup e s).panels = s.panels := rfl
@[simp] theorem raiseSup_srs (e : SupEvent) (s : State) : (raiseSup e s).srs = s.srs := rfl
@[simp] theorem raiseSup_bsq (e : SupEvent) (s : State) : (raiseSup e s).bsq = s.bsq := rfl
@[simp] theorem raiseSup_oau (e : SupEvent) (s : State) : (raiseSup e s).oau = s.oau := rfl
@[simp] theorem raiseSup_pae (e : SupEvent) (s : State) : (raiseSup e s).pae = s.pae := rfl
@[simp] theorem raiseSup_untaken (e : SupEvent) (s : State) : (raiseSup e s).untaken = s.untaken := rfl
@[simp] theorem raiseSup_blc (e : SupEvent) (s : State) : (raiseSup e s).blc = s.blc := rfl
@[simp] theorem raiseSup_alc (e : SupEvent) (s : State) : (raiseSup e s).alc = s.alc := rfl
@[simp] theorem raiseSup_snu (e : SupEvent) (s : State) : (raiseSup e s).snu = s.snu := rfl
@[simp] theorem raiseSup_pts (e : SupEvent) (s : State) : (raiseSup e s).pts = s.pts := rfl
@[simp] theorem raiseSup_freeCount (e : SupEvent) (s : State) : (raiseSup e s).freeCount = s.freeCount := rfl

@[simp] theorem dropOutcomeReady_pending (b : Bay) (s : State) : (dropOutcomeReady b s).pending = s.pending := rfl
@[simp] theorem dropOutcomeReady_fitted (b : Bay) (s : State) : (dropOutcomeReady b s).fitted = s.fitted := rfl
@[simp] theorem dropOutcomeReady_moc (b : Bay) (s : State) : (dropOutcomeReady b s).moc = s.moc := rfl
@[simp] theorem dropOutcomeReady_pli (b : Bay) (s : State) : (dropOutcomeReady b s).pli = s.pli := rfl
@[simp] theorem dropOutcomeReady_supervisor (b : Bay) (s : State) : (dropOutcomeReady b s).supervisor = s.supervisor := rfl
@[simp] theorem dropOutcomeReady_srs (b : Bay) (s : State) : (dropOutcomeReady b s).srs = s.srs := rfl
@[simp] theorem dropOutcomeReady_bsq (b : Bay) (s : State) : (dropOutcomeReady b s).bsq = s.bsq := rfl
@[simp] theorem dropOutcomeReady_oau (b : Bay) (s : State) : (dropOutcomeReady b s).oau = s.oau := rfl
@[simp] theorem dropOutcomeReady_pae (b : Bay) (s : State) : (dropOutcomeReady b s).pae = s.pae := rfl
@[simp] theorem dropOutcomeReady_untaken (b : Bay) (s : State) : (dropOutcomeReady b s).untaken = s.untaken := rfl
@[simp] theorem dropOutcomeReady_blc (b : Bay) (s : State) : (dropOutcomeReady b s).blc = s.blc := rfl
@[simp] theorem dropOutcomeReady_alc (b : Bay) (s : State) : (dropOutcomeReady b s).alc = s.alc := rfl
@[simp] theorem dropOutcomeReady_snu (b : Bay) (s : State) : (dropOutcomeReady b s).snu = s.snu := rfl
@[simp] theorem dropOutcomeReady_pts (b : Bay) (s : State) : (dropOutcomeReady b s).pts = s.pts := rfl
@[simp] theorem dropOutcomeReady_freeCount (b : Bay) (s : State) : (dropOutcomeReady b s).freeCount = s.freeCount := rfl

@[simp] theorem restartEvents_pending (s : State) : (restartEvents s).pending = s.pending := rfl
@[simp] theorem restartEvents_fitted (s : State) : (restartEvents s).fitted = s.fitted := rfl
@[simp] theorem restartEvents_moc (s : State) : (restartEvents s).moc = s.moc := rfl
@[simp] theorem restartEvents_pli (s : State) : (restartEvents s).pli = s.pli := rfl
@[simp] theorem restartEvents_srs (s : State) : (restartEvents s).srs = s.srs := rfl
@[simp] theorem restartEvents_bsq (s : State) : (restartEvents s).bsq = s.bsq := rfl
@[simp] theorem restartEvents_oau (s : State) : (restartEvents s).oau = s.oau := rfl
@[simp] theorem restartEvents_pae (s : State) : (restartEvents s).pae = s.pae := rfl
@[simp] theorem restartEvents_untaken (s : State) : (restartEvents s).untaken = s.untaken := rfl
@[simp] theorem restartEvents_blc (s : State) : (restartEvents s).blc = s.blc := rfl
@[simp] theorem restartEvents_alc (s : State) : (restartEvents s).alc = s.alc := rfl
@[simp] theorem restartEvents_snu (s : State) : (restartEvents s).snu = s.snu := rfl
@[simp] theorem restartEvents_pts (s : State) : (restartEvents s).pts = s.pts := rfl
@[simp] theorem restartEvents_freeCount (s : State) : (restartEvents s).freeCount = s.freeCount := rfl

@[simp] theorem linkFault_pending (s : State) : (linkFault s).pending = s.pending := rfl
@[simp] theorem linkFault_fitted (s : State) : (linkFault s).fitted = s.fitted := rfl
@[simp] theorem linkFault_moc (s : State) : (linkFault s).moc = s.moc := rfl
@[simp] theorem linkFault_pli (s : State) : (linkFault s).pli = s.pli := rfl
@[simp] theorem linkFault_panels (s : State) : (linkFault s).panels = s.panels := rfl
@[simp] theorem linkFault_srs (s : State) : (linkFault s).srs = s.srs := rfl
@[simp] theorem linkFault_bsq (s : State) : (linkFault s).bsq = s.bsq := rfl
@[simp] theorem linkFault_oau (s : State) : (linkFault s).oau = s.oau := rfl
@[simp] theorem linkFault_pae (s : State) : (linkFault s).pae = s.pae := rfl
@[simp] theorem linkFault_untaken (s : State) : (linkFault s).untaken = s.untaken := rfl
@[simp] theorem linkFault_blc (s : State) : (linkFault s).blc = s.blc := rfl
@[simp] theorem linkFault_alc (s : State) : (linkFault s).alc = s.alc := rfl
@[simp] theorem linkFault_snu (s : State) : (linkFault s).snu = s.snu := rfl
@[simp] theorem linkFault_pts (s : State) : (linkFault s).pts = s.pts := rfl
@[simp] theorem linkFault_freeCount (s : State) : (linkFault s).freeCount = s.freeCount := rfl

/-! ### Outputs, demand and valve of a bay -/

@[simp] theorem driveAir_pending (b : Bay) (s : State) : (driveAir b s).pending = s.pending := rfl
@[simp] theorem driveAir_fitted (b : Bay) (s : State) : (driveAir b s).fitted = s.fitted := rfl
@[simp] theorem driveAir_moc (b : Bay) (s : State) : (driveAir b s).moc = s.moc := rfl
@[simp] theorem driveAir_pli (b : Bay) (s : State) : (driveAir b s).pli = s.pli := rfl
@[simp] theorem driveAir_supervisor (b : Bay) (s : State) : (driveAir b s).supervisor = s.supervisor := rfl
@[simp] theorem driveAir_panels (b : Bay) (s : State) : (driveAir b s).panels = s.panels := rfl
@[simp] theorem driveAir_srs (b : Bay) (s : State) : (driveAir b s).srs = s.srs := rfl
@[simp] theorem driveAir_bsq (b : Bay) (s : State) : (driveAir b s).bsq = s.bsq := rfl
@[simp] theorem driveAir_oau (b : Bay) (s : State) : (driveAir b s).oau = s.oau := rfl
@[simp] theorem driveAir_pae (b : Bay) (s : State) : (driveAir b s).pae = s.pae := rfl
@[simp] theorem driveAir_untaken (b : Bay) (s : State) : (driveAir b s).untaken = s.untaken := rfl
@[simp] theorem driveAir_blc (b : Bay) (s : State) : (driveAir b s).blc = s.blc := rfl
@[simp] theorem driveAir_snu (b : Bay) (s : State) : (driveAir b s).snu = s.snu := rfl
@[simp] theorem driveAir_pts (b : Bay) (s : State) : (driveAir b s).pts = s.pts := rfl
@[simp] theorem driveAir_freeCount (b : Bay) (s : State) : (driveAir b s).freeCount = s.freeCount := rfl

@[simp] theorem formDemand_pending (b : Bay) (s : State) : (formDemand b s).pending = s.pending := rfl
@[simp] theorem formDemand_fitted (b : Bay) (s : State) : (formDemand b s).fitted = s.fitted := rfl
@[simp] theorem formDemand_moc (b : Bay) (s : State) : (formDemand b s).moc = s.moc := rfl
@[simp] theorem formDemand_pli (b : Bay) (s : State) : (formDemand b s).pli = s.pli := rfl
@[simp] theorem formDemand_supervisor (b : Bay) (s : State) : (formDemand b s).supervisor = s.supervisor := rfl
@[simp] theorem formDemand_panels (b : Bay) (s : State) : (formDemand b s).panels = s.panels := rfl
@[simp] theorem formDemand_srs (b : Bay) (s : State) : (formDemand b s).srs = s.srs := rfl
@[simp] theorem formDemand_bsq (b : Bay) (s : State) : (formDemand b s).bsq = s.bsq := rfl
@[simp] theorem formDemand_oau (b : Bay) (s : State) : (formDemand b s).oau = s.oau := rfl
@[simp] theorem formDemand_pae (b : Bay) (s : State) : (formDemand b s).pae = s.pae := rfl
@[simp] theorem formDemand_untaken (b : Bay) (s : State) : (formDemand b s).untaken = s.untaken := rfl
@[simp] theorem formDemand_blc (b : Bay) (s : State) : (formDemand b s).blc = s.blc := rfl
@[simp] theorem formDemand_snu (b : Bay) (s : State) : (formDemand b s).snu = s.snu := rfl
@[simp] theorem formDemand_pts (b : Bay) (s : State) : (formDemand b s).pts = s.pts := rfl
@[simp] theorem formDemand_freeCount (b : Bay) (s : State) : (formDemand b s).freeCount = s.freeCount := rfl

@[simp] theorem driveValve_pending (b : Bay) (s : State) : (driveValve b s).pending = s.pending := rfl
@[simp] theorem driveValve_fitted (b : Bay) (s : State) : (driveValve b s).fitted = s.fitted := rfl
@[simp] theorem driveValve_moc (b : Bay) (s : State) : (driveValve b s).moc = s.moc := rfl
@[simp] theorem driveValve_pli (b : Bay) (s : State) : (driveValve b s).pli = s.pli := rfl
@[simp] theorem driveValve_supervisor (b : Bay) (s : State) : (driveValve b s).supervisor = s.supervisor := rfl
@[simp] theorem driveValve_panels (b : Bay) (s : State) : (driveValve b s).panels = s.panels := rfl
@[simp] theorem driveValve_srs (b : Bay) (s : State) : (driveValve b s).srs = s.srs := rfl
@[simp] theorem driveValve_bsq (b : Bay) (s : State) : (driveValve b s).bsq = s.bsq := rfl
@[simp] theorem driveValve_oau (b : Bay) (s : State) : (driveValve b s).oau = s.oau := rfl
@[simp] theorem driveValve_pae (b : Bay) (s : State) : (driveValve b s).pae = s.pae := rfl
@[simp] theorem driveValve_untaken (b : Bay) (s : State) : (driveValve b s).untaken = s.untaken := rfl
@[simp] theorem driveValve_alc (b : Bay) (s : State) : (driveValve b s).alc = s.alc := rfl
@[simp] theorem driveValve_snu (b : Bay) (s : State) : (driveValve b s).snu = s.snu := rfl
@[simp] theorem driveValve_pts (b : Bay) (s : State) : (driveValve b s).pts = s.pts := rfl
@[simp] theorem driveValve_freeCount (b : Bay) (s : State) : (driveValve b s).freeCount = s.freeCount := rfl

@[simp] theorem driveBay_pending (b : Bay) (s : State) : (driveBay b s).pending = s.pending := rfl
@[simp] theorem driveBay_fitted (b : Bay) (s : State) : (driveBay b s).fitted = s.fitted := rfl
@[simp] theorem driveBay_moc (b : Bay) (s : State) : (driveBay b s).moc = s.moc := rfl
@[simp] theorem driveBay_pli (b : Bay) (s : State) : (driveBay b s).pli = s.pli := rfl
@[simp] theorem driveBay_supervisor (b : Bay) (s : State) : (driveBay b s).supervisor = s.supervisor := rfl
@[simp] theorem driveBay_panels (b : Bay) (s : State) : (driveBay b s).panels = s.panels := rfl
@[simp] theorem driveBay_srs (b : Bay) (s : State) : (driveBay b s).srs = s.srs := rfl
@[simp] theorem driveBay_bsq (b : Bay) (s : State) : (driveBay b s).bsq = s.bsq := rfl
@[simp] theorem driveBay_oau (b : Bay) (s : State) : (driveBay b s).oau = s.oau := rfl
@[simp] theorem driveBay_pae (b : Bay) (s : State) : (driveBay b s).pae = s.pae := rfl
@[simp] theorem driveBay_untaken (b : Bay) (s : State) : (driveBay b s).untaken = s.untaken := rfl
@[simp] theorem driveBay_snu (b : Bay) (s : State) : (driveBay b s).snu = s.snu := rfl
@[simp] theorem driveBay_pts (b : Bay) (s : State) : (driveBay b s).pts = s.pts := rfl
@[simp] theorem driveBay_freeCount (b : Bay) (s : State) : (driveBay b s).freeCount = s.freeCount := rfl

@[simp] theorem withdrawAux_pending (b : Bay) (s : State) : (withdrawAux b s).pending = s.pending := rfl
@[simp] theorem withdrawAux_fitted (b : Bay) (s : State) : (withdrawAux b s).fitted = s.fitted := rfl
@[simp] theorem withdrawAux_moc (b : Bay) (s : State) : (withdrawAux b s).moc = s.moc := rfl
@[simp] theorem withdrawAux_pli (b : Bay) (s : State) : (withdrawAux b s).pli = s.pli := rfl
@[simp] theorem withdrawAux_supervisor (b : Bay) (s : State) : (withdrawAux b s).supervisor = s.supervisor := rfl
@[simp] theorem withdrawAux_panels (b : Bay) (s : State) : (withdrawAux b s).panels = s.panels := rfl
@[simp] theorem withdrawAux_srs (b : Bay) (s : State) : (withdrawAux b s).srs = s.srs := rfl
@[simp] theorem withdrawAux_bsq (b : Bay) (s : State) : (withdrawAux b s).bsq = s.bsq := rfl
@[simp] theorem withdrawAux_oau (b : Bay) (s : State) : (withdrawAux b s).oau = s.oau := rfl
@[simp] theorem withdrawAux_untaken (b : Bay) (s : State) : (withdrawAux b s).untaken = s.untaken := rfl
@[simp] theorem withdrawAux_blc (b : Bay) (s : State) : (withdrawAux b s).blc = s.blc := rfl
@[simp] theorem withdrawAux_snu (b : Bay) (s : State) : (withdrawAux b s).snu = s.snu := rfl
@[simp] theorem withdrawAux_pts (b : Bay) (s : State) : (withdrawAux b s).pts = s.pts := rfl
@[simp] theorem withdrawAux_freeCount (b : Bay) (s : State) : (withdrawAux b s).freeCount = s.freeCount := rfl

/-! ### Withdrawals, compressor and budget -/

@[simp] theorem withdrawBoiler_pending (s : State) : (withdrawBoiler s).pending = s.pending := rfl
@[simp] theorem withdrawBoiler_fitted (s : State) : (withdrawBoiler s).fitted = s.fitted := rfl
@[simp] theorem withdrawBoiler_moc (s : State) : (withdrawBoiler s).moc = s.moc := rfl
@[simp] theorem withdrawBoiler_pli (s : State) : (withdrawBoiler s).pli = s.pli := rfl
@[simp] theorem withdrawBoiler_supervisor (s : State) : (withdrawBoiler s).supervisor = s.supervisor := rfl
@[simp] theorem withdrawBoiler_panels (s : State) : (withdrawBoiler s).panels = s.panels := rfl
@[simp] theorem withdrawBoiler_srs (s : State) : (withdrawBoiler s).srs = s.srs := rfl
@[simp] theorem withdrawBoiler_bsq (s : State) : (withdrawBoiler s).bsq = s.bsq := rfl
@[simp] theorem withdrawBoiler_oau (s : State) : (withdrawBoiler s).oau = s.oau := rfl
@[simp] theorem withdrawBoiler_untaken (s : State) : (withdrawBoiler s).untaken = s.untaken := rfl
@[simp] theorem withdrawBoiler_alc (s : State) : (withdrawBoiler s).alc = s.alc := rfl
@[simp] theorem withdrawBoiler_snu (s : State) : (withdrawBoiler s).snu = s.snu := rfl
@[simp] theorem withdrawBoiler_pts (s : State) : (withdrawBoiler s).pts = s.pts := rfl
@[simp] theorem withdrawBoiler_freeCount (s : State) : (withdrawBoiler s).freeCount = s.freeCount := rfl

@[simp] theorem withdrawCompressor_pending (s : State) : (withdrawCompressor s).pending = s.pending := rfl
@[simp] theorem withdrawCompressor_fitted (s : State) : (withdrawCompressor s).fitted = s.fitted := rfl
@[simp] theorem withdrawCompressor_moc (s : State) : (withdrawCompressor s).moc = s.moc := rfl
@[simp] theorem withdrawCompressor_pli (s : State) : (withdrawCompressor s).pli = s.pli := rfl
@[simp] theorem withdrawCompressor_supervisor (s : State) : (withdrawCompressor s).supervisor = s.supervisor := rfl
@[simp] theorem withdrawCompressor_panels (s : State) : (withdrawCompressor s).panels = s.panels := rfl
@[simp] theorem withdrawCompressor_srs (s : State) : (withdrawCompressor s).srs = s.srs := rfl
@[simp] theorem withdrawCompressor_bsq (s : State) : (withdrawCompressor s).bsq = s.bsq := rfl
@[simp] theorem withdrawCompressor_oau (s : State) : (withdrawCompressor s).oau = s.oau := rfl
@[simp] theorem withdrawCompressor_untaken (s : State) : (withdrawCompressor s).untaken = s.untaken := rfl
@[simp] theorem withdrawCompressor_blc (s : State) : (withdrawCompressor s).blc = s.blc := rfl
@[simp] theorem withdrawCompressor_alc (s : State) : (withdrawCompressor s).alc = s.alc := rfl
@[simp] theorem withdrawCompressor_snu (s : State) : (withdrawCompressor s).snu = s.snu := rfl
@[simp] theorem withdrawCompressor_pts (s : State) : (withdrawCompressor s).pts = s.pts := rfl
@[simp] theorem withdrawCompressor_freeCount (s : State) : (withdrawCompressor s).freeCount = s.freeCount := rfl

@[simp] theorem compressorOff_pending (s : State) : (compressorOff s).pending = s.pending := rfl
@[simp] theorem compressorOff_fitted (s : State) : (compressorOff s).fitted = s.fitted := rfl
@[simp] theorem compressorOff_moc (s : State) : (compressorOff s).moc = s.moc := rfl
@[simp] theorem compressorOff_pli (s : State) : (compressorOff s).pli = s.pli := rfl
@[simp] theorem compressorOff_supervisor (s : State) : (compressorOff s).supervisor = s.supervisor := rfl
@[simp] theorem compressorOff_panels (s : State) : (compressorOff s).panels = s.panels := rfl
@[simp] theorem compressorOff_srs (s : State) : (compressorOff s).srs = s.srs := rfl
@[simp] theorem compressorOff_bsq (s : State) : (compressorOff s).bsq = s.bsq := rfl
@[simp] theorem compressorOff_oau (s : State) : (compressorOff s).oau = s.oau := rfl
@[simp] theorem compressorOff_untaken (s : State) : (compressorOff s).untaken = s.untaken := rfl
@[simp] theorem compressorOff_blc (s : State) : (compressorOff s).blc = s.blc := rfl
@[simp] theorem compressorOff_snu (s : State) : (compressorOff s).snu = s.snu := rfl
@[simp] theorem compressorOff_pts (s : State) : (compressorOff s).pts = s.pts := rfl
@[simp] theorem compressorOff_freeCount (s : State) : (compressorOff s).freeCount = s.freeCount := rfl

@[simp] theorem formEffective_pending (s : State) : (formEffective s).pending = s.pending := rfl
@[simp] theorem formEffective_fitted (s : State) : (formEffective s).fitted = s.fitted := rfl
@[simp] theorem formEffective_moc (s : State) : (formEffective s).moc = s.moc := rfl
@[simp] theorem formEffective_pli (s : State) : (formEffective s).pli = s.pli := rfl
@[simp] theorem formEffective_supervisor (s : State) : (formEffective s).supervisor = s.supervisor := rfl
@[simp] theorem formEffective_panels (s : State) : (formEffective s).panels = s.panels := rfl
@[simp] theorem formEffective_srs (s : State) : (formEffective s).srs = s.srs := rfl
@[simp] theorem formEffective_bsq (s : State) : (formEffective s).bsq = s.bsq := rfl
@[simp] theorem formEffective_oau (s : State) : (formEffective s).oau = s.oau := rfl
@[simp] theorem formEffective_untaken (s : State) : (formEffective s).untaken = s.untaken := rfl
@[simp] theorem formEffective_blc (s : State) : (formEffective s).blc = s.blc := rfl
@[simp] theorem formEffective_alc (s : State) : (formEffective s).alc = s.alc := rfl
@[simp] theorem formEffective_snu (s : State) : (formEffective s).snu = s.snu := rfl
@[simp] theorem formEffective_pts (s : State) : (formEffective s).pts = s.pts := rfl
@[simp] theorem formEffective_freeCount (s : State) : (formEffective s).freeCount = s.freeCount := rfl

/-! ### Link, modes and store -/

@[simp] theorem setRx_pending (rx : Rx) (s : State) : (setRx rx s).pending = s.pending := rfl
@[simp] theorem setRx_fitted (rx : Rx) (s : State) : (setRx rx s).fitted = s.fitted := rfl
@[simp] theorem setRx_moc (rx : Rx) (s : State) : (setRx rx s).moc = s.moc := rfl
@[simp] theorem setRx_supervisor (rx : Rx) (s : State) : (setRx rx s).supervisor = s.supervisor := rfl
@[simp] theorem setRx_panels (rx : Rx) (s : State) : (setRx rx s).panels = s.panels := rfl
@[simp] theorem setRx_srs (rx : Rx) (s : State) : (setRx rx s).srs = s.srs := rfl
@[simp] theorem setRx_bsq (rx : Rx) (s : State) : (setRx rx s).bsq = s.bsq := rfl
@[simp] theorem setRx_oau (rx : Rx) (s : State) : (setRx rx s).oau = s.oau := rfl
@[simp] theorem setRx_pae (rx : Rx) (s : State) : (setRx rx s).pae = s.pae := rfl
@[simp] theorem setRx_untaken (rx : Rx) (s : State) : (setRx rx s).untaken = s.untaken := rfl
@[simp] theorem setRx_blc (rx : Rx) (s : State) : (setRx rx s).blc = s.blc := rfl
@[simp] theorem setRx_alc (rx : Rx) (s : State) : (setRx rx s).alc = s.alc := rfl
@[simp] theorem setRx_snu (rx : Rx) (s : State) : (setRx rx s).snu = s.snu := rfl
@[simp] theorem setRx_pts (rx : Rx) (s : State) : (setRx rx s).pts = s.pts := rfl
@[simp] theorem setRx_freeCount (rx : Rx) (s : State) : (setRx rx s).freeCount = s.freeCount := rfl

@[simp] theorem endFrame_pending (s : State) : (endFrame s).pending = s.pending := rfl
@[simp] theorem endFrame_fitted (s : State) : (endFrame s).fitted = s.fitted := rfl
@[simp] theorem endFrame_moc (s : State) : (endFrame s).moc = s.moc := rfl
@[simp] theorem endFrame_supervisor (s : State) : (endFrame s).supervisor = s.supervisor := rfl
@[simp] theorem endFrame_panels (s : State) : (endFrame s).panels = s.panels := rfl
@[simp] theorem endFrame_srs (s : State) : (endFrame s).srs = s.srs := rfl
@[simp] theorem endFrame_bsq (s : State) : (endFrame s).bsq = s.bsq := rfl
@[simp] theorem endFrame_oau (s : State) : (endFrame s).oau = s.oau := rfl
@[simp] theorem endFrame_pae (s : State) : (endFrame s).pae = s.pae := rfl
@[simp] theorem endFrame_untaken (s : State) : (endFrame s).untaken = s.untaken := rfl
@[simp] theorem endFrame_blc (s : State) : (endFrame s).blc = s.blc := rfl
@[simp] theorem endFrame_alc (s : State) : (endFrame s).alc = s.alc := rfl
@[simp] theorem endFrame_snu (s : State) : (endFrame s).snu = s.snu := rfl
@[simp] theorem endFrame_pts (s : State) : (endFrame s).pts = s.pts := rfl
@[simp] theorem endFrame_freeCount (s : State) : (endFrame s).freeCount = s.freeCount := rfl

@[simp] theorem respond_pending (m : Master) (kind : Byte) (noise : Bool) (reply : Reply) (s : State) : (respond m kind noise reply s).pending = s.pending := rfl
@[simp] theorem respond_fitted (m : Master) (kind : Byte) (noise : Bool) (reply : Reply) (s : State) : (respond m kind noise reply s).fitted = s.fitted := rfl
@[simp] theorem respond_moc (m : Master) (kind : Byte) (noise : Bool) (reply : Reply) (s : State) : (respond m kind noise reply s).moc = s.moc := rfl
@[simp] theorem respond_supervisor (m : Master) (kind : Byte) (noise : Bool) (reply : Reply) (s : State) : (respond m kind noise reply s).supervisor = s.supervisor := rfl
@[simp] theorem respond_panels (m : Master) (kind : Byte) (noise : Bool) (reply : Reply) (s : State) : (respond m kind noise reply s).panels = s.panels := rfl
@[simp] theorem respond_srs (m : Master) (kind : Byte) (noise : Bool) (reply : Reply) (s : State) : (respond m kind noise reply s).srs = s.srs := rfl
@[simp] theorem respond_bsq (m : Master) (kind : Byte) (noise : Bool) (reply : Reply) (s : State) : (respond m kind noise reply s).bsq = s.bsq := rfl
@[simp] theorem respond_oau (m : Master) (kind : Byte) (noise : Bool) (reply : Reply) (s : State) : (respond m kind noise reply s).oau = s.oau := rfl
@[simp] theorem respond_pae (m : Master) (kind : Byte) (noise : Bool) (reply : Reply) (s : State) : (respond m kind noise reply s).pae = s.pae := rfl
@[simp] theorem respond_untaken (m : Master) (kind : Byte) (noise : Bool) (reply : Reply) (s : State) : (respond m kind noise reply s).untaken = s.untaken := rfl
@[simp] theorem respond_blc (m : Master) (kind : Byte) (noise : Bool) (reply : Reply) (s : State) : (respond m kind noise reply s).blc = s.blc := rfl
@[simp] theorem respond_alc (m : Master) (kind : Byte) (noise : Bool) (reply : Reply) (s : State) : (respond m kind noise reply s).alc = s.alc := rfl
@[simp] theorem respond_snu (m : Master) (kind : Byte) (noise : Bool) (reply : Reply) (s : State) : (respond m kind noise reply s).snu = s.snu := rfl
@[simp] theorem respond_pts (m : Master) (kind : Byte) (noise : Bool) (reply : Reply) (s : State) : (respond m kind noise reply s).pts = s.pts := rfl
@[simp] theorem respond_freeCount (m : Master) (kind : Byte) (noise : Bool) (reply : Reply) (s : State) : (respond m kind noise reply s).freeCount = s.freeCount := rfl

@[simp] theorem endStartup_pending (s : State) : (endStartup s).pending = s.pending := rfl
@[simp] theorem endStartup_fitted (s : State) : (endStartup s).fitted = s.fitted := rfl
@[simp] theorem endStartup_supervisor (s : State) : (endStartup s).supervisor = s.supervisor := rfl
@[simp] theorem endStartup_panels (s : State) : (endStartup s).panels = s.panels := rfl
@[simp] theorem endStartup_srs (s : State) : (endStartup s).srs = s.srs := rfl
@[simp] theorem endStartup_bsq (s : State) : (endStartup s).bsq = s.bsq := rfl
@[simp] theorem endStartup_oau (s : State) : (endStartup s).oau = s.oau := rfl
@[simp] theorem endStartup_untaken (s : State) : (endStartup s).untaken = s.untaken := rfl
@[simp] theorem endStartup_blc (s : State) : (endStartup s).blc = s.blc := rfl
@[simp] theorem endStartup_alc (s : State) : (endStartup s).alc = s.alc := rfl
@[simp] theorem endStartup_snu (s : State) : (endStartup s).snu = s.snu := rfl
@[simp] theorem endStartup_pts (s : State) : (endStartup s).pts = s.pts := rfl
@[simp] theorem endStartup_freeCount (s : State) : (endStartup s).freeCount = s.freeCount := rfl

@[simp] theorem setPts_pending (p : Pts) (s : State) : (setPts p s).pending = s.pending := rfl
@[simp] theorem setPts_fitted (p : Pts) (s : State) : (setPts p s).fitted = s.fitted := rfl
@[simp] theorem setPts_moc (p : Pts) (s : State) : (setPts p s).moc = s.moc := rfl
@[simp] theorem setPts_pli (p : Pts) (s : State) : (setPts p s).pli = s.pli := rfl
@[simp] theorem setPts_supervisor (p : Pts) (s : State) : (setPts p s).supervisor = s.supervisor := rfl
@[simp] theorem setPts_panels (p : Pts) (s : State) : (setPts p s).panels = s.panels := rfl
@[simp] theorem setPts_srs (p : Pts) (s : State) : (setPts p s).srs = s.srs := rfl
@[simp] theorem setPts_bsq (p : Pts) (s : State) : (setPts p s).bsq = s.bsq := rfl
@[simp] theorem setPts_oau (p : Pts) (s : State) : (setPts p s).oau = s.oau := rfl
@[simp] theorem setPts_pae (p : Pts) (s : State) : (setPts p s).pae = s.pae := rfl
@[simp] theorem setPts_untaken (p : Pts) (s : State) : (setPts p s).untaken = s.untaken := rfl
@[simp] theorem setPts_blc (p : Pts) (s : State) : (setPts p s).blc = s.blc := rfl
@[simp] theorem setPts_alc (p : Pts) (s : State) : (setPts p s).alc = s.alc := rfl
@[simp] theorem setPts_snu (p : Pts) (s : State) : (setPts p s).snu = s.snu := rfl
@[simp] theorem setPts_freeCount (p : Pts) (s : State) : (setPts p s).freeCount = s.freeCount := rfl

@[simp] theorem writeSlot_pending (slot : Byte) (p : Option Profile) (s : State) : (writeSlot slot p s).pending = s.pending := rfl
@[simp] theorem writeSlot_fitted (slot : Byte) (p : Option Profile) (s : State) : (writeSlot slot p s).fitted = s.fitted := rfl
@[simp] theorem writeSlot_moc (slot : Byte) (p : Option Profile) (s : State) : (writeSlot slot p s).moc = s.moc := rfl
@[simp] theorem writeSlot_pli (slot : Byte) (p : Option Profile) (s : State) : (writeSlot slot p s).pli = s.pli := rfl
@[simp] theorem writeSlot_supervisor (slot : Byte) (p : Option Profile) (s : State) : (writeSlot slot p s).supervisor = s.supervisor := rfl
@[simp] theorem writeSlot_panels (slot : Byte) (p : Option Profile) (s : State) : (writeSlot slot p s).panels = s.panels := rfl
@[simp] theorem writeSlot_srs (slot : Byte) (p : Option Profile) (s : State) : (writeSlot slot p s).srs = s.srs := rfl
@[simp] theorem writeSlot_bsq (slot : Byte) (p : Option Profile) (s : State) : (writeSlot slot p s).bsq = s.bsq := rfl
@[simp] theorem writeSlot_oau (slot : Byte) (p : Option Profile) (s : State) : (writeSlot slot p s).oau = s.oau := rfl
@[simp] theorem writeSlot_pae (slot : Byte) (p : Option Profile) (s : State) : (writeSlot slot p s).pae = s.pae := rfl
@[simp] theorem writeSlot_untaken (slot : Byte) (p : Option Profile) (s : State) : (writeSlot slot p s).untaken = s.untaken := rfl
@[simp] theorem writeSlot_blc (slot : Byte) (p : Option Profile) (s : State) : (writeSlot slot p s).blc = s.blc := rfl
@[simp] theorem writeSlot_alc (slot : Byte) (p : Option Profile) (s : State) : (writeSlot slot p s).alc = s.alc := rfl
@[simp] theorem writeSlot_snu (slot : Byte) (p : Option Profile) (s : State) : (writeSlot slot p s).snu = s.snu := rfl
@[simp] theorem writeSlot_freeCount (slot : Byte) (p : Option Profile) (s : State) : (writeSlot slot p s).freeCount = s.freeCount := rfl

/-! ### Masters -/

@[simp] theorem masterState_setMaster (m : Master) (x : MasterState) (s : State) :
    masterState m (setMaster m x s) = x := by cases m <;> simp [masterState, setMaster]

theorem masterState_setMaster_other {m k : Master} (x : MasterState) (s : State) (h : k ≠ m) :
    masterState k (setMaster m x s) = masterState k s := by
  cases m with
  | supervisor => cases k with
    | supervisor => exact absurd rfl h
    | panel c => rfl
  | panel b => cases k with
    | supervisor => rfl
    | panel c =>
      have hc : c ≠ b := fun hcb => h (by rw [hcb])
      simp [masterState, setMaster, hc]

@[simp] theorem setMaster_pending (m : Master) (x : MasterState) (s : State) : (setMaster m x s).pending = s.pending := by
  cases m <;> rfl

@[simp] theorem setMaster_fitted (m : Master) (x : MasterState) (s : State) : (setMaster m x s).fitted = s.fitted := by
  cases m <;> rfl

@[simp] theorem setMaster_moc (m : Master) (x : MasterState) (s : State) : (setMaster m x s).moc = s.moc := by
  cases m <;> rfl

@[simp] theorem setMaster_pli (m : Master) (x : MasterState) (s : State) : (setMaster m x s).pli = s.pli := by
  cases m <;> rfl

@[simp] theorem setMaster_srs (m : Master) (x : MasterState) (s : State) : (setMaster m x s).srs = s.srs := by
  cases m <;> rfl

@[simp] theorem setMaster_bsq (m : Master) (x : MasterState) (s : State) : (setMaster m x s).bsq = s.bsq := by
  cases m <;> rfl

@[simp] theorem setMaster_oau (m : Master) (x : MasterState) (s : State) : (setMaster m x s).oau = s.oau := by
  cases m <;> rfl

@[simp] theorem setMaster_pae (m : Master) (x : MasterState) (s : State) : (setMaster m x s).pae = s.pae := by
  cases m <;> rfl

@[simp] theorem setMaster_untaken (m : Master) (x : MasterState) (s : State) : (setMaster m x s).untaken = s.untaken := by
  cases m <;> rfl

@[simp] theorem setMaster_blc (m : Master) (x : MasterState) (s : State) : (setMaster m x s).blc = s.blc := by
  cases m <;> rfl

@[simp] theorem setMaster_alc (m : Master) (x : MasterState) (s : State) : (setMaster m x s).alc = s.alc := by
  cases m <;> rfl

@[simp] theorem setMaster_snu (m : Master) (x : MasterState) (s : State) : (setMaster m x s).snu = s.snu := by
  cases m <;> rfl

@[simp] theorem setMaster_pts (m : Master) (x : MasterState) (s : State) : (setMaster m x s).pts = s.pts := by
  cases m <;> rfl

@[simp] theorem setMaster_freeCount (m : Master) (x : MasterState) (s : State) : (setMaster m x s).freeCount = s.freeCount := by
  cases m <;> rfl

/-! ### An event of a bay master -/

@[simp] theorem raisePanel_pending (b : Bay) (e : PanelEvent) (s : State) : (raisePanel b e s).pending = s.pending := by
  unfold raisePanel; split <;> rfl

@[simp] theorem raisePanel_fitted (b : Bay) (e : PanelEvent) (s : State) : (raisePanel b e s).fitted = s.fitted := by
  unfold raisePanel; split <;> rfl

@[simp] theorem raisePanel_moc (b : Bay) (e : PanelEvent) (s : State) : (raisePanel b e s).moc = s.moc := by
  unfold raisePanel; split <;> rfl

@[simp] theorem raisePanel_pli (b : Bay) (e : PanelEvent) (s : State) : (raisePanel b e s).pli = s.pli := by
  unfold raisePanel; split <;> rfl

@[simp] theorem raisePanel_supervisor (b : Bay) (e : PanelEvent) (s : State) : (raisePanel b e s).supervisor = s.supervisor := by
  unfold raisePanel; split <;> rfl

@[simp] theorem raisePanel_srs (b : Bay) (e : PanelEvent) (s : State) : (raisePanel b e s).srs = s.srs := by
  unfold raisePanel; split <;> rfl

@[simp] theorem raisePanel_bsq (b : Bay) (e : PanelEvent) (s : State) : (raisePanel b e s).bsq = s.bsq := by
  unfold raisePanel; split <;> rfl

@[simp] theorem raisePanel_oau (b : Bay) (e : PanelEvent) (s : State) : (raisePanel b e s).oau = s.oau := by
  unfold raisePanel; split <;> rfl

@[simp] theorem raisePanel_pae (b : Bay) (e : PanelEvent) (s : State) : (raisePanel b e s).pae = s.pae := by
  unfold raisePanel; split <;> rfl

@[simp] theorem raisePanel_untaken (b : Bay) (e : PanelEvent) (s : State) : (raisePanel b e s).untaken = s.untaken := by
  unfold raisePanel; split <;> rfl

@[simp] theorem raisePanel_blc (b : Bay) (e : PanelEvent) (s : State) : (raisePanel b e s).blc = s.blc := by
  unfold raisePanel; split <;> rfl

@[simp] theorem raisePanel_alc (b : Bay) (e : PanelEvent) (s : State) : (raisePanel b e s).alc = s.alc := by
  unfold raisePanel; split <;> rfl

@[simp] theorem raisePanel_snu (b : Bay) (e : PanelEvent) (s : State) : (raisePanel b e s).snu = s.snu := by
  unfold raisePanel; split <;> rfl

@[simp] theorem raisePanel_pts (b : Bay) (e : PanelEvent) (s : State) : (raisePanel b e s).pts = s.pts := by
  unfold raisePanel; split <;> rfl

@[simp] theorem raisePanel_freeCount (b : Bay) (e : PanelEvent) (s : State) : (raisePanel b e s).freeCount = s.freeCount := by
  unfold raisePanel; split <;> rfl

end Sys2Proof.Machine
end

