-- ==== Sys2Proof/Laws/Bays.lean ====
section
/-! SUPPORT. What the shared operations of one bay leave alone: `BayFrame b s t` says that `t` differs from `s` in bay b's parts
only, and each operation of the sequencer is shown to keep it. -/

namespace Sys2Proof.Machine

/-- Everything outside bay b's own parts, its valve and its heater entry is as it was. -/
structure BayFrame (b : Bay) (s t : State) : Prop where
  pending : t.pending = s.pending
  fitted : t.fitted = s.fitted
  moc : t.moc = s.moc
  pli : t.pli = s.pli
  supervisor : t.supervisor = s.supervisor
  untaken : t.untaken = s.untaken
  snu : t.snu = s.snu
  pts : t.pts = s.pts
  freeCount : t.freeCount = s.freeCount
  bsq : ∀ c, c ≠ b → t.bsq.get c = s.bsq.get c
  srs : ∀ c, c ≠ b → t.srs.get c = s.srs.get c
  oau : ∀ c, c ≠ b → t.oau.get c = s.oau.get c
  panels : ∀ c, c ≠ b → t.panels.get c = s.panels.get c
  outputs : ∀ c, c ≠ b → t.alc.bays.get c = s.alc.bays.get c
  compressorDrive : t.alc.compressorDrive = s.alc.compressorDrive
  blc : t.blc = { s.blc with valves := t.blc.valves }
  valves : ∀ c, c ≠ b → t.blc.valves.get c = s.blc.valves.get c
  pae : t.pae = { s.pae with grants := { s.pae.grants with
    aux := t.pae.grants.aux, class2 := t.pae.grants.class2, unallotted := t.pae.grants.unallotted } }
  aux : ∀ c, c ≠ b → t.pae.grants.aux.get c = s.pae.grants.aux.get c

namespace BayFrame

variable {b : Bay} {s t u : State}

theorem refl (b : Bay) (s : State) : BayFrame b s s := by constructor <;> intros <;> rfl

theorem trans (h : BayFrame b s t) (k : BayFrame b t u) : BayFrame b s u where
  pending := k.pending.trans h.pending
  fitted := k.fitted.trans h.fitted
  moc := k.moc.trans h.moc
  pli := k.pli.trans h.pli
  supervisor := k.supervisor.trans h.supervisor
  untaken := k.untaken.trans h.untaken
  snu := k.snu.trans h.snu
  pts := k.pts.trans h.pts
  freeCount := k.freeCount.trans h.freeCount
  bsq c hc := (k.bsq c hc).trans (h.bsq c hc)
  srs c hc := (k.srs c hc).trans (h.srs c hc)
  oau c hc := (k.oau c hc).trans (h.oau c hc)
  panels c hc := (k.panels c hc).trans (h.panels c hc)
  outputs c hc := (k.outputs c hc).trans (h.outputs c hc)
  compressorDrive := k.compressorDrive.trans h.compressorDrive
  blc := by rw [k.blc, h.blc]
  valves c hc := (k.valves c hc).trans (h.valves c hc)
  pae := by rw [k.pae, h.pae]
  aux c hc := (k.aux c hc).trans (h.aux c hc)

/-- A frame that ends in one of two states. -/
theorem ite {p : Prop} [Decidable p] (h : p → BayFrame b s t) (k : ¬ p → BayFrame b s u) :
    BayFrame b s (if p then t else u) := by
  split
  · exact h ‹_›
  · exact k ‹_›

end BayFrame

/-! ### The plain operations -/

theorem setBsq_frame (b : Bay) (q : Bsq) (s : State) : BayFrame b s (setBsq b q s) := by
  constructor <;> intros <;> simp [*]

theorem setRing_frame (b : Bay) (r : StepRing) (s : State) : BayFrame b s (setRing b r s) := by
  constructor <;> intros <;> simp [*]

theorem setOutcomes_frame (b : Bay) (o : OutcomeRing) (s : State) : BayFrame b s (setOutcomes b o s) := by
  constructor <;> intros <;> simp [*]

theorem setOutputs_frame (b : Bay) (o : BayOutputs) (s : State) : BayFrame b s (setOutputs b o s) := by
  constructor <;> intros <;> simp [*]

theorem setContext_frame (b : Bay) (c : Option Context) (s : State) : BayFrame b s (setContext b c s) :=
  setBsq_frame b _ s

theorem removeHead_frame (b : Bay) (n : Nat) (s : State) : BayFrame b s (removeHead b n s) := setRing_frame b _ s

theorem raisePanel_frame (b : Bay) (e : PanelEvent) (s : State) : BayFrame b s (raisePanel b e s) := by
  constructor <;> intros <;> try simp only [raisePanel_pending, raisePanel_fitted, raisePanel_moc, raisePanel_pli,
    raisePanel_supervisor, raisePanel_untaken, raisePanel_snu, raisePanel_pts, raisePanel_freeCount, raisePanel_bsq,
    raisePanel_srs, raisePanel_oau, raisePanel_alc, raisePanel_blc, raisePanel_pae]
  unfold raisePanel
  split <;> simp [*]

theorem driveAir_frame (b : Bay) (s : State) : BayFrame b s (driveAir b s) := setOutputs_frame b _ s

theorem formDemand_frame (b : Bay) (s : State) : BayFrame b s (formDemand b s) := setOutputs_frame b _ s

theorem driveValve_frame (b : Bay) (s : State) : BayFrame b s (driveValve b s) := by
  constructor <;> intros <;> simp [driveValve, *]

theorem driveBay_frame (b : Bay) (s : State) : BayFrame b s (driveBay b s) :=
  ((driveAir_frame b s).trans (formDemand_frame b _)).trans (driveValve_frame b _)

theorem withdrawAux_frame (b : Bay) (s : State) : BayFrame b s (withdrawAux b s) := by
  constructor <;> intros <;> simp [withdrawAux, setOutputs, *]

/-! ### Outcomes and rings -/

theorem postOutcome_frame (b : Bay) (role : PostRole) (rec : Outcome) (s : State) :
    BayFrame b s (postOutcome b role rec s) :=
  BayFrame.ite (fun _ => (setOutcomes_frame b _ s).trans (raisePanel_frame b _ _)) fun _ => setOutcomes_frame b _ s

/-- What posting does to the ring (R145). -/
theorem postOutcome_ring (b : Bay) (role : PostRole) (rec : Outcome) (s : State) :
    (postOutcome b role rec s).oau.get b =
      { s.oau.get b with
        records := (s.oau.get b).records ++ [{ rec with sequence := (s.oau.get b).q }]
        q := (s.oau.get b).q + 1
        reservation := if role = .final then false else (s.oau.get b).reservation
        promise := if role = .notify then false else (s.oau.get b).promise } := by
  unfold postOutcome
  dsimp only
  split <;> simp

theorem postOutcome_bsq (b : Bay) (role : PostRole) (rec : Outcome) (s : State) :
    (postOutcome b role rec s).bsq = s.bsq := by
  unfold postOutcome
  dsimp only
  split <;> simp

theorem postOutcome_srs (b : Bay) (role : PostRole) (rec : Outcome) (s : State) :
    (postOutcome b role rec s).srs = s.srs := by
  unfold postOutcome
  dsimp only
  split <;> simp

theorem removeStep_frame (b : Bay) (s : State) : BayFrame b s (removeStep b s) :=
  (removeHead_frame b 1 s).trans (setRing_frame b _ _)

/-! ### Hold reasons -/

/-- Everything a new hold-reason set can do to a bay's sequencer (R40, R46, R52, R54, R57). -/
theorem changeHolds_cases (b : Bay) (h : HoldSet) (s : State) :
    changeHolds b h s = s ∨
    (∃ x, (s.bsq.get b).context = some x ∧ (s.bsq.get b).state = .running ∧ h ≠ HoldSet.empty ∧
      (changeHolds b h s).bsq.get b =
        { s.bsq.get b with holds := h, state := .held, context := some { x with satisfied := 0 } }) ∨
    (∃ x, (s.bsq.get b).context = some x ∧ (s.bsq.get b).state = .held ∧ h = HoldSet.empty ∧
      (changeHolds b h s).bsq.get b =
        { s.bsq.get b with holds := h, state := .running, context := some { x with stallTimer := 0 } }) ∨
    ((changeHolds b h s).bsq.get b = { s.bsq.get b with holds := h } ∧
      ((s.bsq.get b).state = .running ∧ h = HoldSet.empty ∨ (s.bsq.get b).state = .held ∧ h ≠ HoldSet.empty)) := by
  by_cases hh : (s.bsq.get b).holds = h
  · exact .inl (by simp [changeHolds, hh])
  cases hs : (s.bsq.get b).state <;> cases hc : (s.bsq.get b).context <;>
    simp only [changeHolds, hh, if_false, hs, hc, true_or]
  · by_cases he : h = HoldSet.empty
    · exact .inr (.inr (.inr ⟨by simp [holdsEmpty, he], .inl ⟨trivial, he⟩⟩))
    · exact .inr (.inl ⟨_, rfl, trivial, he, by simp [holdsEmpty, he]⟩)
  · by_cases he : h = HoldSet.empty
    · exact .inr (.inr (.inl ⟨_, rfl, trivial, he, by simp [holdsEmpty, he]⟩))
    · exact .inr (.inr (.inr ⟨by simp [holdsEmpty, he], .inr ⟨trivial, he⟩⟩))

theorem changeHolds_frame (b : Bay) (h : HoldSet) (s : State) : BayFrame b s (changeHolds b h s) := by
  unfold changeHolds
  dsimp only
  split
  · exact .refl b s
  split
  · split
    · exact (setBsq_frame b _ s).trans (raisePanel_frame b _ _)
    · exact ((((setBsq_frame b _ s).trans (raisePanel_frame b _ _)).trans (raisePanel_frame b _ _)).trans
        (withdrawAux_frame b _)).trans (driveBay_frame b _)
  · split
    · exact (((setBsq_frame b _ s).trans (raisePanel_frame b _ _)).trans (raisePanel_frame b _ _)).trans
        (driveBay_frame b _)
    · exact (setBsq_frame b _ s).trans (raisePanel_frame b _ _)
  · exact .refl b s

/-- A new hold-reason set touches neither ring. -/
theorem changeHolds_rings (b : Bay) (h : HoldSet) (s : State) :
    (changeHolds b h s).srs = s.srs ∧ (changeHolds b h s).oau = s.oau := by
  unfold changeHolds
  dsimp only
  split
  · exact ⟨rfl, rfl⟩
  split <;> (try split) <;> simp

theorem reholdFront_frame (b : Bay) (s : State) : BayFrame b s (reholdFront b s) := by
  unfold reholdFront
  split
  · exact changeHolds_frame b _ s
  · exact .refl b s

theorem reholdSteam_frame (b : Bay) (s : State) : BayFrame b s (reholdSteam b s) := by
  unfold reholdSteam
  split
  · exact changeHolds_frame b _ s
  · exact .refl b s

theorem reholdPower_frame (b : Bay) (s : State) : BayFrame b s (reholdPower b s) := by
  unfold reholdPower
  split
  · exact changeHolds_frame b _ s
  · exact .refl b s

theorem reholdTank_frame (b : Bay) (s : State) : BayFrame b s (reholdTank b s) := by
  unfold reholdTank
  split
  · exact changeHolds_frame b _ s
  · exact .refl b s

theorem reholdStandby_frame (b : Bay) (s : State) : BayFrame b s (reholdStandby b s) := by
  unfold reholdStandby
  split
  · exact changeHolds_frame b _ s
  · exact .refl b s

/-! ### Steps and parks -/

theorem promiseStep_frame (b : Bay) (x : Context) (s : State) : BayFrame b s (promiseStep b x s) :=
  BayFrame.ite (fun _ => setOutcomes_frame b _ s) fun _ => .refl b s

theorem settleStart_frame (b : Bay) (x : Context) (h : HoldSet) (s : State) : BayFrame b s (settleStart b x h s) := by
  unfold settleStart
  dsimp only
  refine BayFrame.trans ?_ (driveBay_frame b _)
  have h1 := (setBsq_frame b { s.bsq.get b with
    state := if holdsEmpty h then .running else .held, holds := h, context := some x } s).trans
    (raisePanel_frame b .stateChange _)
  exact BayFrame.ite (fun _ => h1) fun _ => h1.trans (raisePanel_frame b _ _)

theorem startStep_frame (b : Bay) (s : State) : BayFrame b s (startStep b s) := by
  unfold startStep
  split
  · split
    · exact (promiseStep_frame b _ s).trans (settleStart_frame b _ _ _)
    · exact .refl b s
  · exact .refl b s

theorem enterStep_frame (b : Bay) (index : Nat) (s : State) : BayFrame b s (enterStep b index s) := by
  unfold enterStep
  split
  · have h1 := (setContext_frame b (some { zeroStep ‹Context› with index := index, heldTime := 0 }) s).trans
      (raisePanel_frame b .stateChange _)
    exact BayFrame.ite (fun _ => h1.trans ((setBsq_frame b _ _).trans (driveBay_frame b _)))
      fun _ => h1.trans (startStep_frame b _)
  · exact .refl b s

theorem becomeIdle_frame (b : Bay) (s : State) : BayFrame b s (becomeIdle b s) :=
  ((setBsq_frame b _ s).trans (raisePanel_frame b _ _)).trans (driveBay_frame b _)

theorem rejectProgram_frame (b : Bay) (steps index : Nat) (reason : RejectReason) (tag : Byte) (s : State) :
    BayFrame b s (rejectProgram b steps index reason tag s) :=
  (postOutcome_frame b _ _ s).trans (removeHead_frame b _ _)

theorem emptyHolds_frame (b : Bay) (s : State) : BayFrame b s (emptyHolds b s) :=
  BayFrame.ite (fun _ => .refl b s) fun _ => (setBsq_frame b _ s).trans (raisePanel_frame b _ _)

theorem enterParking_frame (b : Bay) (result : ParkResult) (s : State) : BayFrame b s (enterParking b result s) :=
  BayFrame.ite
    (fun _ => (((((emptyHolds_frame b s).trans (setBsq_frame b _ _)).trans (setOutcomes_frame b _ _)).trans
      (raisePanel_frame b _ _)).trans (withdrawAux_frame b _)).trans (driveBay_frame b _))
    fun _ => .refl b s

theorem closeProgram_frame (b : Bay) (s : State) : BayFrame b s (closeProgram b s) := by
  unfold closeProgram
  split
  · split
    · exact ((postOutcome_frame b _ _ s).trans (removeHead_frame b _ _)).trans (setRing_frame b _ _)
    · exact .refl b s
  · exact .refl b s

theorem baySensorFault_frame (b : Bay) (s : State) : BayFrame b s (baySensorFault b s) := by
  unfold baySensorFault
  split
  · exact setBsq_frame b _ s
  · exact enterParking_frame b _ s

/-- Entering PARKING: what becomes of the sequencer (R68). -/
theorem enterParking_bsq (b : Bay) (result : ParkResult) (s : State) (h : inProgress (s.bsq.get b) = true) :
    (enterParking b result s).bsq.get b =
      { s.bsq.get b with
        state := .parking, holds := HoldSet.empty, parkTimer := 0, parkMinTaken := false
        faultAfterPark := (s.bsq.get b).faultAfterPark || decide (result = .faulted)
        context := (s.bsq.get b).context.map fun x => { x with pendingResult := some result } } := by
  unfold enterParking
  rw [if_pos h]
  by_cases he : (s.bsq.get b).holds = HoldSet.empty
  · simp [emptyHolds, he]
  · simp [emptyHolds, he]

/-- A bay that is not in progress is not sent to PARKING. -/
theorem enterParking_else (b : Bay) (result : ParkResult) (s : State) (h : inProgress (s.bsq.get b) = false) :
    enterParking b result s = s := by
  simp [enterParking, h]

end Sys2Proof.Machine
end

