-- ==== Sys2Proof/Laws/Boiler.lean ====
section
/-! SUPPORT. What a move of the boiler leaves alone: `PlantFrame s t` says that `t` differs from `s` only where a change of boiler
state, compressor or mode may reach through hold sets, outputs, grants and events. -/

namespace Sys2Proof.Machine

/-- Rings, inputs, store, link, modes, publication marks and queue are as they were. -/
structure PlantFrame (s t : State) : Prop where
  pending : t.pending = s.pending
  fitted : t.fitted = s.fitted
  moc : t.moc = s.moc
  pli : t.pli = s.pli
  srs : t.srs = s.srs
  oau : t.oau = s.oau
  untaken : t.untaken = s.untaken
  snu : t.snu = s.snu
  pts : t.pts = s.pts
  freeCount : t.freeCount = s.freeCount
  present : t.supervisor.present = s.supervisor.present
  budget : t.pae.budget = s.pae.budget
  effective : t.pae.effective = s.pae.effective
  roundTimer : t.pae.roundTimer = s.pae.roundTimer

namespace PlantFrame

variable {s t u : State}

theorem refl (s : State) : PlantFrame s s := by constructor <;> rfl

theorem trans (h : PlantFrame s t) (k : PlantFrame t u) : PlantFrame s u where
  pending := k.pending.trans h.pending
  fitted := k.fitted.trans h.fitted
  moc := k.moc.trans h.moc
  pli := k.pli.trans h.pli
  srs := k.srs.trans h.srs
  oau := k.oau.trans h.oau
  untaken := k.untaken.trans h.untaken
  snu := k.snu.trans h.snu
  pts := k.pts.trans h.pts
  freeCount := k.freeCount.trans h.freeCount
  present := k.present.trans h.present
  budget := k.budget.trans h.budget
  effective := k.effective.trans h.effective
  roundTimer := k.roundTimer.trans h.roundTimer

theorem ite {p : Prop} [Decidable p] (h : p → PlantFrame s t) (k : ¬ p → PlantFrame s u) :
    PlantFrame s (if p then t else u) := by
  split
  · exact h ‹_›
  · exact k ‹_›

/-- A bay's operation that leaves both rings is a plant frame. -/
theorem of_bay {b : Bay} (h : BayFrame b s t) (hr : t.srs = s.srs) (ho : t.oau = s.oau) : PlantFrame s t where
  pending := h.pending
  fitted := h.fitted
  moc := h.moc
  pli := h.pli
  srs := hr
  oau := ho
  untaken := h.untaken
  snu := h.snu
  pts := h.pts
  freeCount := h.freeCount
  present := by rw [h.supervisor]
  budget := by rw [h.pae]
  effective := by rw [h.pae]
  roundTimer := by rw [h.pae]

end PlantFrame

/-- Something done for every bay in turn keeps a frame that it keeps for each. -/
theorem forBays_plantFrame (f : Bay → State → State) (h : ∀ b s, PlantFrame s (f b s)) (s : State) :
    PlantFrame s (forBays f s) :=
  (((h .b0 s).trans (h .b1 _)).trans (h .b2 _)).trans (h .b3 _)

theorem driveValve_plantFrame (b : Bay) (s : State) : PlantFrame s (driveValve b s) :=
  .of_bay (driveValve_frame b s) rfl rfl

theorem changeHolds_plantFrame (b : Bay) (h : HoldSet) (s : State) : PlantFrame s (changeHolds b h s) :=
  .of_bay (changeHolds_frame b h s) (changeHolds_rings b h s).1 (changeHolds_rings b h s).2

theorem reholdFront_plantFrame (b : Bay) (s : State) : PlantFrame s (reholdFront b s) := by
  unfold reholdFront
  split
  · exact changeHolds_plantFrame b _ s
  · exact .refl s

theorem reholdSteam_plantFrame (b : Bay) (s : State) : PlantFrame s (reholdSteam b s) := by
  unfold reholdSteam
  split
  · exact changeHolds_plantFrame b _ s
  · exact .refl s

theorem reholdPower_plantFrame (b : Bay) (s : State) : PlantFrame s (reholdPower b s) := by
  unfold reholdPower
  split
  · exact changeHolds_plantFrame b _ s
  · exact .refl s

theorem reholdTank_plantFrame (b : Bay) (s : State) : PlantFrame s (reholdTank b s) := by
  unfold reholdTank
  split
  · exact changeHolds_plantFrame b _ s
  · exact .refl s

theorem reholdStandby_plantFrame (b : Bay) (s : State) : PlantFrame s (reholdStandby b s) := by
  unfold reholdStandby
  split
  · exact changeHolds_plantFrame b _ s
  · exact .refl s

theorem raiseSup_plantFrame (e : SupEvent) (s : State) : PlantFrame s (raiseSup e s) := by constructor <;> rfl

theorem withdrawBoiler_plantFrame (s : State) : PlantFrame s (withdrawBoiler s) := by constructor <;> rfl

theorem forceCompressorOff_plantFrame (s : State) : PlantFrame s (forceCompressorOff s) := by
  refine PlantFrame.ite (fun _ => ?_) fun _ => .refl s
  have h : PlantFrame s (withdrawCompressor (compressorOff s)) := by constructor <;> rfl
  exact h.trans (forBays_plantFrame _ reholdPower_plantFrame _)

theorem toBoiler_plantFrame (next : BoilerState) (s : State) : PlantFrame s (toBoiler next s) := by
  unfold toBoiler
  refine PlantFrame.ite (fun _ => .refl s) fun _ => ?_
  have h1 : PlantFrame s { s with blc := moveBlc next (decide (s.moc.pumpMode = .auto)) s.blc } := by
    constructor <;> rfl
  refine PlantFrame.trans ?_ (forBays_plantFrame _ driveValve_plantFrame _)
  refine PlantFrame.trans ?_ (forBays_plantFrame _ reholdSteam_plantFrame _)
  refine PlantFrame.trans ?_ (raiseSup_plantFrame _ _)
  exact PlantFrame.ite (fun _ => h1.trans (withdrawBoiler_plantFrame _)) fun _ => h1

/-! ### The boiler's own state -/

/-- What no hold set or valve moves of the boiler: everything but the valves. -/
def BlcKept (s t : State) : Prop := t.blc = { s.blc with valves := t.blc.valves }

theorem BlcKept.refl (s : State) : BlcKept s s := rfl

theorem BlcKept.trans {s t u : State} (h : BlcKept s t) (k : BlcKept t u) : BlcKept s u := by
  unfold BlcKept at *
  rw [k, h]

theorem forBays_blcKept (f : Bay → State → State) (h : ∀ b s, BayFrame b s (f b s)) (s : State) :
    BlcKept s (forBays f s) :=
  (((BlcKept.trans (h .b0 s).blc (h .b1 _).blc).trans (h .b2 _).blc).trans (h .b3 _).blc : _)

/-- A move of the boiler to another state: the state, its timers, the carry and, in AUTO, the pump (R99, R100, R104, R105). -/
theorem toBoiler_blc (next : BoilerState) (s : State) (h : s.blc.state ≠ next) :
    (toBoiler next s).blc =
      { moveBlc next (decide (s.moc.pumpMode = .auto)) s.blc with
        valves := (toBoiler next s).blc.valves
        heaterDrive := if isHot s.blc.state && !isHot next then 0 else s.blc.heaterDrive } := by
  unfold toBoiler
  rw [if_neg h]
  dsimp only
  split
  · exact ((forBays_blcKept _ reholdSteam_frame _).trans (forBays_blcKept _ driveValve_frame _) : BlcKept _ _)
  · exact ((forBays_blcKept _ reholdSteam_frame _).trans (forBays_blcKept _ driveValve_frame _) : BlcKept _ _)

/-- After a move the boiler is where it was sent. -/
@[simp] theorem toBoiler_state (next : BoilerState) (s : State) : (toBoiler next s).blc.state = next := by
  by_cases h : s.blc.state = next
  · simp [toBoiler, h]
  · rw [toBoiler_blc next s h]
    rfl

/-! ### The moves made of it -/

theorem towardsFill_plantFrame (s : State) : PlantFrame s (towardsFill s) :=
  PlantFrame.ite (fun _ => toBoiler_plantFrame _ s) fun _ => toBoiler_plantFrame _ s

theorem enterHeat_plantFrame (s : State) : PlantFrame s (enterHeat s) :=
  PlantFrame.ite (fun _ => (toBoiler_plantFrame _ s).trans (toBoiler_plantFrame _ _))
    fun _ => toBoiler_plantFrame _ s

theorem examineStart_plantFrame (s : State) : PlantFrame s (examineStart s) :=
  PlantFrame.ite
    (fun _ => PlantFrame.ite (fun _ => enterHeat_plantFrame s) fun _ => towardsFill_plantFrame s)
    fun _ => .refl s

theorem examineSteam_plantFrame (s : State) : PlantFrame s (examineSteam s) := by
  refine PlantFrame.ite (fun _ => ?_) fun _ => .refl s
  have h : PlantFrame s { s with blc := { s.blc with idleTimer := 0 } } := by constructor <;> rfl
  exact h.trans (examineStart_plantFrame _)

theorem lockBoiler_plantFrame (cause : LockCause) (s : State) : PlantFrame s (lockBoiler cause s) := by
  refine PlantFrame.ite (fun _ => .refl s) fun _ => ?_
  have h : PlantFrame s { s with blc := { s.blc with cause := cause } } := by constructor <;> rfl
  exact h.trans (toBoiler_plantFrame _ _)

theorem refill_plantFrame (s : State) : PlantFrame s (refill s) :=
  PlantFrame.ite (fun _ => towardsFill_plantFrame s) fun _ => .refl s

theorem coolBoiler_plantFrame (s : State) : PlantFrame s (coolBoiler s) :=
  PlantFrame.ite (fun _ => .refl s) fun _ => toBoiler_plantFrame _ s

end Sys2Proof.Machine
end

