-- ==== Sys2Proof/Laws/Kept.lean ====
section
/-! SUPPORT. What no operation of the sequencer or the boiler touches: `Kept s t` says that queue, straps, modes, link, inputs,
store, publication marks and budget of `t` are those of `s`. -/

namespace Sys2Proof.Machine

/-- The parts of the state that admission, steps, parks and boiler moves leave as they are. -/
structure Kept (s t : State) : Prop where
  pending : t.pending = s.pending
  fitted : t.fitted = s.fitted
  moc : t.moc = s.moc
  pli : t.pli = s.pli
  untaken : t.untaken = s.untaken
  snu : t.snu = s.snu
  pts : t.pts = s.pts
  freeCount : t.freeCount = s.freeCount
  present : t.supervisor.present = s.supervisor.present
  budget : t.pae.budget = s.pae.budget
  effective : t.pae.effective = s.pae.effective
  roundTimer : t.pae.roundTimer = s.pae.roundTimer

namespace Kept

variable {s t u : State}

theorem refl (s : State) : Kept s s := by constructor <;> rfl

theorem trans (h : Kept s t) (k : Kept t u) : Kept s u where
  pending := k.pending.trans h.pending
  fitted := k.fitted.trans h.fitted
  moc := k.moc.trans h.moc
  pli := k.pli.trans h.pli
  untaken := k.untaken.trans h.untaken
  snu := k.snu.trans h.snu
  pts := k.pts.trans h.pts
  freeCount := k.freeCount.trans h.freeCount
  present := k.present.trans h.present
  budget := k.budget.trans h.budget
  effective := k.effective.trans h.effective
  roundTimer := k.roundTimer.trans h.roundTimer

theorem ite {p : Prop} [Decidable p] (h : p → Kept s t) (k : ¬ p → Kept s u) : Kept s (if p then t else u) := by
  split
  · exact h ‹_›
  · exact k ‹_›

theorem of_bay {b : Bay} (h : BayFrame b s t) : Kept s t :=
  ⟨h.pending, h.fitted, h.moc, h.pli, h.untaken, h.snu, h.pts, h.freeCount, by rw [h.supervisor], by rw [h.pae],
    by rw [h.pae], by rw [h.pae]⟩

theorem of_plant (h : PlantFrame s t) : Kept s t :=
  ⟨h.pending, h.fitted, h.moc, h.pli, h.untaken, h.snu, h.pts, h.freeCount, h.present, h.budget, h.effective,
    h.roundTimer⟩

end Kept

theorem acceptProgram_kept (b : Bay) (program : List StepRecord) (s : State) : Kept s (acceptProgram b program s) := by
  unfold acceptProgram
  refine Kept.trans (.of_bay (BayFrame.trans ?_ (enterStep_frame b 0 _))) (.of_plant (examineSteam_plantFrame _))
  exact ((setOutcomes_frame b _ s).trans (setRing_frame b _ _)).trans (setBsq_frame b _ _)

theorem admitPrograms_kept (n : Nat) (b : Bay) (s : State) : Kept s (admitPrograms n b s) := by
  induction n generalizing s with
  | zero => exact .refl s
  | succ n ih =>
    unfold admitPrograms
    refine Kept.ite (fun _ => ?_) fun _ => .refl s
    split
    · split
      · exact (Kept.of_bay (rejectProgram_frame b _ _ _ _ s)).trans (ih _)
      · exact acceptProgram_kept b _ s
    · exact .refl s

/-- Examining admission. -/
theorem examineAdmission_kept (b : Bay) (s : State) : Kept s (examineAdmission b s) := admitPrograms_kept _ b s

/-- Admission not examined where a condition of R33 fails. -/
theorem examineAdmission_none (b : Bay) (s : State) (h : admissible b s = false) : examineAdmission b s = s := by
  simp [examineAdmission, admitPrograms, h]

/-- The end of a step. -/
theorem endStep_kept (b : Bay) (result : Result) (s : State) : Kept s (endStep b result s) := by
  unfold endStep
  split
  · dsimp only
    have h0 := withdrawAux_frame b s
    refine Kept.ite (fun _ => ?_) fun _ => ?_
    · exact (Kept.of_bay (((h0.trans (postOutcome_frame b _ _ _)).trans (removeStep_frame b _)).trans
        (becomeIdle_frame b _))).trans (examineAdmission_kept b _)
    · refine Kept.of_bay (BayFrame.trans (BayFrame.trans ?_ (removeStep_frame b _)) (enterStep_frame b _ _))
      exact BayFrame.ite (fun _ => h0.trans (postOutcome_frame b _ _ _)) fun _ => h0
  · exact .refl s

/-- The end of a park. -/
theorem endPark_kept (b : Bay) (s : State) : Kept s (endPark b s) := by
  unfold endPark
  dsimp only
  have h := ((closeProgram_frame b s).trans (setBsq_frame b
    { (closeProgram b s).bsq.get b with
      state := if ((closeProgram b s).bsq.get b).faultAfterPark then .faulted else .idle
      context := none, parkTimer := 0, parkMinTaken := false, faultAfterPark := false } _)).trans
    ((raisePanel_frame b .stateChange _).trans (driveBay_frame b _))
  exact Kept.ite (fun _ => .of_bay h) fun _ => (Kept.of_bay h).trans (examineAdmission_kept b _)

theorem creditBay_kept (credits : PerBay Nat) (b : Bay) (s : State) : Kept s (creditBay credits b s) := by
  unfold creditBay
  dsimp only
  split
  · exact Kept.ite (fun _ => (Kept.of_bay (setContext_frame b _ s)).trans (endStep_kept b _ _))
      fun _ => .of_bay (setContext_frame b _ s)
  · exact .refl s

theorem afterFree_kept (b : Bay) (s : State) : Kept s (afterFree b s) := by
  unfold afterFree
  split
  · exact Kept.ite (fun _ => .of_bay (startStep_frame b s)) fun _ => .refl s
  · exact examineAdmission_kept b s
  · exact .refl s

end Sys2Proof.Machine
end

