-- ==== Sys2Proof/Laws/Admission.lean ====
section
/-! SUPPORT. What an examination of admission can do (R15, R16, R33 to R35): nothing, one rejection and a further examination, or
one acceptance. -/

namespace Sys2Proof.Machine

/-- No record of a ring closes a program: no program is complete (R22). -/
theorem headProgram_none {rs : List StepRecord} (h : ∀ x ∈ rs, isEnd x = false) : headProgram rs = none := by
  induction rs with
  | nil => rfl
  | cons r rest ih =>
    rw [headProgram, h r (by simp), ih fun x hx => h x (by simp [hx])]
    rfl

/-- The oldest program is what stands up to the first PROGRAM_END (R11). -/
theorem headProgram_append {front rest : List StepRecord} {last : StepRecord} (h : ∀ x ∈ front, isEnd x = false)
    (hl : isEnd last = true) : headProgram (front ++ last :: rest) = some (front ++ [last]) := by
  induction front with
  | nil => simp [headProgram, hl]
  | cons r front ih =>
    rw [List.cons_append, headProgram, h r (by simp), ih fun x hx => h x (by simp [hx])]
    rfl

/-- A rejection takes a free unreserved entry and leaves the bay as it is (R16). -/
theorem rejectProgram_entries (b : Bay) (steps index : Nat) (reason : RejectReason) (tag : Byte) (s : State) :
    freeEntries ((rejectProgram b steps index reason tag s).oau.get b) = freeEntries (s.oau.get b) - 1 := by
  simp only [rejectProgram, removeHead, setRing]
  rw [postOutcome_ring]
  simp only [freeEntries, List.length_append, List.length_singleton]
  simp
  omega

/-- Fuel above the free entries is enough: one more changes nothing. -/
theorem admitPrograms_fuel (n : Nat) (b : Bay) (s : State) (h : freeEntries (s.oau.get b) < n) :
    admitPrograms (n + 1) b s = admitPrograms n b s := by
  induction n generalizing s with
  | zero => omega
  | succ n ih =>
    rw [admitPrograms, admitPrograms]
    by_cases ha : admissible b s = true
    · have hf : 1 ≤ freeEntries (s.oau.get b) := by
        simp only [admissible, Bool.and_eq_true, decide_eq_true_eq] at ha; exact ha.2
      simp only [ha, if_true]
      split
      · split
        · exact ih _ (by rw [rejectProgram_entries]; omega)
        · rfl
      · rfl
    · simp [ha]

/-- An examination that rejects is the rejection and an examination after it (R16, R34). -/
theorem examineAdmission_rejects {b : Bay} {s : State} {program : List StepRecord} {i : Nat} {reason : RejectReason}
    {tag : Byte} (ha : admissible b s = true) (hp : headProgram (s.srs.get b).records = some program)
    (hf : firstFailure s.pts.table 0 program = some (i, reason, tag)) :
    examineAdmission b s = examineAdmission b (rejectProgram b program.length i reason tag s) := by
  have hn : 1 ≤ freeEntries (s.oau.get b) := by
    simp only [admissible, Bool.and_eq_true, decide_eq_true_eq] at ha; exact ha.2
  have hm : freeEntries (s.oau.get b) ≤ outcomePlaces := by simp only [freeEntries]; omega
  rw [examineAdmission, admitPrograms]
  simp only [ha, if_true, hp, hf]
  exact (admitPrograms_fuel outcomePlaces b _ (by rw [rejectProgram_entries]; omega)).symm

/-- An examination that accepts is the acceptance (R17, R35). -/
theorem examineAdmission_accepts {b : Bay} {s : State} {program : List StepRecord} (ha : admissible b s = true)
    (hp : headProgram (s.srs.get b).records = some program) (hf : firstFailure s.pts.table 0 program = none) :
    examineAdmission b s = acceptProgram b program s := by
  rw [examineAdmission, admitPrograms]
  simp only [ha, if_true, hp, hf]

/-- Without a complete program an examination does nothing (R33). -/
theorem examineAdmission_no_program {b : Bay} {s : State} (hp : headProgram (s.srs.get b).records = none) :
    examineAdmission b s = s := by
  rw [examineAdmission, admitPrograms]
  simp only [hp, ite_self]

/-- A program without a failing step passes, whatever index it is counted from (R15). -/
theorem firstFailure_none {table : ProfileTable} {rs : List StepRecord} (i : Nat)
    (h : ∀ x ∈ rs, stepFailure table x = none) : firstFailure table i rs = none := by
  induction rs generalizing i with
  | nil => rfl
  | cons r rest ih =>
    rw [firstFailure, h r (by simp)]
    exact ih _ fun x hx => h x (by simp [hx])

/-- The first failing step decides, at its own index (R15, R16). -/
theorem firstFailure_some {table : ProfileTable} {rs : List StepRecord} {j : Nat} {x : StepRecord} {why : RejectReason}
    (i : Nat) (hx : rs[j]? = some x) (hw : stepFailure table x = some why)
    (hb : ∀ (k : Nat) y, k < j → rs[k]? = some y → stepFailure table y = none) :
    firstFailure table i rs = some (i + j, why, x.tag) := by
  induction rs generalizing i j with
  | nil => simp at hx
  | cons r rest ih =>
    cases j with
    | zero =>
      simp only [List.getElem?_cons_zero, Option.some.injEq] at hx
      subst hx
      rw [firstFailure, hw]; rfl
    | succ j =>
      rw [firstFailure, hb 0 r (by omega) (by simp)]
      simp only [List.getElem?_cons_succ] at hx
      have := ih (i + 1) hx fun k y hk hy => hb (k + 1) y (by omega) (by simpa using hy)
      rw [show i + (j + 1) = i + 1 + j by omega]
      exact this

end Sys2Proof.Machine
end

