-- ==== Sys2Proof/Laws/Link.lean ====
section
/-! SUPPORT. The link: when a request is taken, what presence leaves, and the characters that reach frame assembly. -/

namespace Sys2Proof.Machine

/-- Frames are taken exactly when the part is awake (R180). -/
theorem takesFrames_iff (s : State) : takesFrames s = true ↔ Awake s := by
  simp [takesFrames, Awake]

/-- The common checks pass: fitted master, entitled, index in range, and a bay that is fitted and the master's own. -/
structure Passes (m : Master) (r : Request) (s : State) : Prop where
  master : masterFitted m s = true
  entitled : entitled m (reqKind r) = true
  length : lengthOk r = true
  index : indexOk r = true
  bay : ∀ b, bayNamed r = some b → s.fitted.get b = true ∧ ownBay m b = true

/-- What becoming PRESENT leaves of the state besides its master's presence (R174). -/
theorem heard_fitted (m : Master) (s : State) : (heard m s).fitted = s.fitted := by
  cases m with
  | supervisor =>
    unfold heard becomePresent
    dsimp only
    split <;> rfl
  | panel b =>
    unfold heard becomePresent
    dsimp only
    split
    · rfl
    · exact (examineAdmission_kept b _).fitted

theorem heard_moc (m : Master) (s : State) : (heard m s).moc = s.moc := by
  cases m with
  | supervisor =>
    unfold heard becomePresent
    dsimp only
    split <;> rfl
  | panel b =>
    unfold heard becomePresent
    dsimp only
    split
    · rfl
    · exact (examineAdmission_kept b _).moc

theorem heard_snu (m : Master) (s : State) : (heard m s).snu = s.snu := by
  cases m with
  | supervisor =>
    unfold heard becomePresent
    dsimp only
    split <;> rfl
  | panel b =>
    unfold heard becomePresent
    dsimp only
    split
    · rfl
    · exact (examineAdmission_kept b _).snu

theorem heard_pts (m : Master) (s : State) : (heard m s).pts = s.pts := by
  cases m with
  | supervisor =>
    unfold heard becomePresent
    dsimp only
    split <;> rfl
  | panel b =>
    unfold heard becomePresent
    dsimp only
    split
    · rfl
    · exact (examineAdmission_kept b _).pts

theorem heard_pending (m : Master) (s : State) : (heard m s).pending = s.pending := by
  cases m with
  | supervisor =>
    unfold heard becomePresent
    dsimp only
    split <;> rfl
  | panel b =>
    unfold heard becomePresent
    dsimp only
    split
    · rfl
    · exact (examineAdmission_kept b _).pending

/-- A request that passes the common checks is performed by its owner, whose answer waits to be sent (R175). -/
theorem takeRequest_passes {m : Master} {r : Request} {s : State} (noise : Bool) (hA : Awake s) (h : Passes m r s) :
    takeRequest m noise r s =
      respond m (reqCode (reqKind r)) noise (perform m r (heard m s)).2 (perform m r (heard m s)).1 := by
  have hc : commonRefusal m (some (reqKind r)) (some r) (heard m s) = none := by
    unfold commonRefusal
    simp only [h.entitled, h.length, h.index, if_true]
    split
    · rfl
    · rename_i b hb
      rw [heard_fitted, (h.bay b hb).1, (h.bay b hb).2]
      rfl
  unfold takeRequest takeFrame
  rw [if_pos ((takesFrames_iff s).mpr hA), if_pos h.master]
  simp [answerFrame, hc]

/-- A request outside RUN and STANDBY has no effect (R180). -/
theorem takeRequest_asleep {s : State} (m : Master) (noise : Bool) (r : Request) (h : ¬ Awake s) :
    takeRequest m noise r s = s := by
  unfold takeRequest takeFrame
  rw [if_neg (fun k => h ((takesFrames_iff s).mp k))]

/-- A character that reaches frame assembly: the part is awake and no response waits (R178, R180). -/
theorem execLinkCharacter_assembles {cs : CharSamples} {x : RxChar} {s : State} (hx : receiveChar cs = some x)
    (hA : Awake s) (ht : s.pli.tx = none) : execLinkCharacter cs s = .next (assemble x s) := by
  simp only [execLinkCharacter, hx, takeChar]
  rcases hA with h | h <;> simp [h, ht]

/-- A break has its stop bit 0 (R169). -/
theorem break_has_framing_error {cs : CharSamples} {x : RxChar} (hx : receiveChar cs = some x)
    (hf : x.framing = false) : x.isBreak = false := by
  unfold receiveChar at hx
  dsimp only at hx
  split at hx
  · cases hx
  · cases hx
    simp only [Bool.not_eq_false'] at hf
    simp only [decide_eq_false_iff_not]
    intro h0
    rw [h0] at hf
    simp at hf

/-- A character sent without noise is received as it was sent (R168, R169). -/
theorem receive_cleanChar (mark : Bool) (byte : Byte) :
    receiveChar (cleanChar mark byte) = some ⟨byte, mark, false, false, false⟩ := by
  have h : ∀ (m : Bool) (y : Byte), receiveChar (cleanChar m y) = some ⟨y, m, false, false, false⟩ := by decide +revert
  exact h mark byte

end Sys2Proof.Machine
end

