-- ==== Sys2Proof/WellFormed.lean ====
section
/-! DEFINITION. Which commands the outside can send: the checks that the types of their operands do not make. -/

namespace Sys2Proof

/-- A frame's payload is at most 48 bytes (section 12.1). -/
def payloadFits (payload : List Byte) : Bool := decide (payload.length ≤ 48)

/-- A source that is none of the five master addresses (R173). -/
def sourceUnknown (source : Byte) : Bool := (Machine.masterOf source).isNone

/-- A kind byte outside section 12.5. -/
def kindUnknown (kind : Byte) : Bool := (Machine.reqOfCode kind).isNone

/-- A batch that a payload of 48 bytes can carry; R190 refuses those of no record and of five. -/
def batchFits (records : List StepRecord) : Bool := decide (records.length ≤ 5)

/-- A character of a response of at most 54 characters (section 10.5). -/
def echoIndexFits (sent : Nat) : Bool := decide (sent < 54)

/-- The well-formed commands. -/
def wellFormed (i : Instr) : Bool :=
  match i with
  | .unknownSourceFrame source _ payload _ => sourceUnknown source && payloadFits payload
  | .unknownKindRequest _ kind payload _ => kindUnknown kind && payloadFits payload
  | .stepAppend _ _ _ _ records => batchFits records
  | .echoMismatch sent _ => echoIndexFits sent
  | .powerOnReset _ => true
  | .pinReset _ => true
  | .startupEnd => true
  | .linkCharacter _ => true
  | .idleGapExpiry => true
  | .responseSend => true
  | .presenceExpiry _ => true
  | .ping _ _ => true
  | .statusPlant _ _ _ => true
  | .statusBay _ _ _ _ => true
  | .eventsRead _ _ => true
  | .eventsClear _ _ _ => true
  | .eventsMask _ _ _ => true
  | .queueCancel _ _ _ => true
  | .outcomeRead _ _ _ => true
  | .outcomeFree _ _ _ _ => true
  | .bayPause _ _ _ _ => true
  | .bayResume _ _ _ _ => true
  | .programAbort _ _ _ _ => true
  | .budgetSet _ _ _ => true
  | .profileRead _ _ _ => true
  | .profileWrite _ _ _ _ _ => true
  | .profileCommit _ _ => true
  | .plantModeRun _ _ => true
  | .plantModeStandby _ _ => true
  | .plantModeSleep _ _ => true
  | .warmRestart _ _ => true
  | .outputService _ _ _ _ => true
  | .outputServiceAuto _ _ _ _ => true
  | .bayClear _ _ _ => true
  | .boilerClear _ _ => true
  | .wake => true
  | .wakeSettlingEnd => true
  | .allotmentRound => true
  | .steamYield => true
  | .heaterDriveUpdate => true
  | .noPowerReevaluation _ => true
  | .switchSample _ _ => true
  | .analogSample _ _ => true
  | .stepDurationExpiry _ => true
  | .stall _ => true
  | .parkTimer _ _ => true
  | .fillTimeout => true
  | .idleCooldown => true
  | .commitPhaseEnd _ => true

end Sys2Proof
end

