-- ==== Sys2Proof/Tests/Slice0.lean ====
section
/-! SUPPORT. Tests: what WellFormed refuses, small tests of each command with results taken from the manual's tables and worked
sequences, and for each statement with hypotheses a witness that they can be met together. -/

namespace Sys2Proof.Tests

open Sys2Proof.Machine

-- The kernel evaluates these one after another: each thread that waits for the kernel takes memory of its own.
set_option Elab.async false

/-! ### Small states -/

/-- The state after a command that answers a next state. -/
def after (c : Instr) (s : State) : State :=
  match exec c s with
  | .next t => t
  | .fault f => nomatch f
  | .refused _ => s

def inPhase (p : Phase) : State := { State.reset with moc := { State.reset.moc with phase := p } }

/-- A part in RUN, just started up. -/
def fresh : State := inPhase .run

def validAt (v : Nat) : Channel := { Channel.unsampled 0 with state := .valid, last := some v }

/-- A switch confirmed at a level. -/
def settled (level : Bool) : SwitchFilter := ⟨level, level, level, 3, true⟩

def record (kind flags : Byte) : StepRecord := ⟨kind, flags, 0x00#8, 0x04#8, 0x0064#16, 0xFFFF#16, 0x07#8⟩

def copyOf (k : StepKind) (level : Nat) (target : Option Nat) : StepCopy :=
  { kind := k, level := level, duration := 100, target := target, goalGiven := target.isSome
    tempLimit := if k = .dry then some 60 else none, fanCeiling := 2, oscRate := 0, openOk := false }

def contextOf (copies : List StepCopy) : Context :=
  { stepCount := copies.length, copies := copies, clamped := false, index := 0, paused := false, stepTimer := 100000
    heldTime := 0, stallTimer := 0, satisfied := 2, delivered := 59900, pendingResult := none }

def bayIn (st : BayState) (x : Option Context) (h : HoldSet) : Bsq :=
  { state := st, context := x, holds := h, parkTimer := 0, parkMinTaken := false, faultAfterPark := false
    admission := 1 }

def noPowerOnly : HoldSet := { HoldSet.empty with noPower := true }

def steamThenSoak : Context := contextOf [copyOf .steam 5 (some 60), copyOf .soak 1 none]

/-- A cabinet at work: bay 0 runs a STEAM step with NOTIFY, bay 1 holds a final DRY step under NO_POWER, bay 2 parks a
program and bay 3 is FAULTED; the boiler is READY, the supervisor PRESENT. -/
def busy : State :=
  { fresh with
    supervisor := { fresh.supervisor with present := true }
    panels := PerBay.fill { present := true, window := 0, pending := 0x0008#16, mask := 0x000F#16, line := true }
    srs := ⟨⟨[record 0x01#8 0x02#8, record 0x05#8 0x01#8, record 0x05#8 0x01#8], 3, 0, 2, 0⟩,
      ⟨[record 0x02#8 0x01#8], 1, 0, 1, 0⟩, ⟨[record 0x05#8 0x01#8], 1, 0, 1, 0⟩, ⟨[], 0, 0, 0, 0⟩⟩
    bsq := ⟨bayIn .running (some steamThenSoak) HoldSet.empty,
      bayIn .held (some (contextOf [copyOf .dry 6 (some 40)])) noPowerOnly,
      bayIn .parking (some { contextOf [copyOf .soak 1 none] with pendingResult := some .aborted }) HoldSet.empty,
      bayIn .faulted none HoldSet.empty⟩
    oau := ⟨⟨[], 0, 0, true, true⟩, ⟨[], 0, 0, true, false⟩, ⟨[], 0, 0, true, false⟩, ⟨[], 0, 0, false, false⟩⟩
    pae := { fresh.pae with effective := 2000, grants := { GrantTable.zero with boiler := 1200, class2 := 1200 } }
    blc := { fresh.blc with state := .ready, carry := 1376, valves := ⟨true, false, false, false⟩ }
    snu := { fresh.snu with
      fronts := PerBay.fill (settled false), boilerWaterOk := settled true, boilerCutout := settled false
      freshLow := settled false, freshEmpty := settled false, condFull := settled false
      temps := PerBay.fill (validAt 40), hums := PerBay.fill (validAt 40), boilerTemp := validAt 110 } }

/-- The cabinet at work with bay 0 in another state of the sequencer. -/
def withBay0 (q : Bsq) : State := setBsq .b0 q busy

/-- A bay 0 that waits for an outcome entry. -/
def waiting : State := withBay0 (bayIn .waiting (some steamThenSoak) HoldSet.empty)

/-- The cabinet with its boiler in another state. -/
def withBoiler (st : BoilerState) : State := { busy with blc := { busy.blc with state := st, carry := 0 } }

/-- The cabinet with an outcome in bay 0's ring. -/
def someOutcome : Outcome := ⟨0, .done, false, 7, false, some 0, none, none, none, none, none⟩
def withOutcomes (n : Nat) : State := setOutcomes .b0 ⟨List.replicate n someOutcome, byteOf n, 0, true, true⟩ busy

/-- A switch one sample short of a transition to `level`. -/
def almost (level : Bool) : SwitchFilter := ⟨level, level, !level, 2, true⟩

/-- A response waiting. -/
def answering : State := { fresh with pli := { fresh.pli with tx := some ⟨.supervisor, 0x01#8, .ack, false, []⟩ } }

/-! ### WellFormed refuses -/

theorem test_wellFormed_refuses_a_known_source : wellFormed (.unknownSourceFrame 0x41#8 0x01#8 [] false) = false := by decide

theorem test_wellFormed_refuses_a_long_unknown_frame :
    wellFormed (.unknownSourceFrame 0x50#8 0x01#8 (List.replicate 49 0#8) false) = false ∧
    wellFormed (.unknownSourceFrame 0x50#8 0x01#8 (List.replicate 48 0#8) false) = true := by decide

theorem test_wellFormed_refuses_a_known_kind :
    wellFormed (.unknownKindRequest .supervisor 0x16#8 [] false) = false ∧
    wellFormed (.unknownKindRequest .supervisor 0x17#8 [] false) = true := by decide

theorem test_wellFormed_refuses_a_long_request :
    wellFormed (.unknownKindRequest .supervisor 0x17#8 (List.replicate 49 0#8) false) = false := by decide

theorem test_wellFormed_refuses_six_records :
    wellFormed (.stepAppend (.panel .b0) false 0 0 (List.replicate 6 (record 1 1))) = false ∧
    wellFormed (.stepAppend (.panel .b0) false 0 0 (List.replicate 5 (record 1 1))) = true := by decide

theorem test_wellFormed_refuses_a_far_echo :
    wellFormed (.echoMismatch 54 ⟨0, 0, 0⟩) = false ∧ wellFormed (.echoMismatch 53 ⟨0, 0, 0⟩) = true := by decide

/-! ### Decode: no row of the table has bits -/

theorem test_no_word_spells_a_command : decodeTableWord 0 0 = none ∧ decodeTableWord 16 0x1234 = none := by decide

theorem test_withFetchWord_leaves_the_queue : (State.reset.withFetchWord 8 1).pending = [] := by decide

/-! ### The clocked machine -/

theorem test_idle_step_counts_one_millisecond : (match step State.reset with
    | .next t => t.moc.timer
    | .fault _ => 0
    | .refused _ => 0) = 1 := by decide +kernel

theorem test_front_of_the_queue_first : (match step { fresh with pending := [.allotmentRound, .wake] } with
    | .next t => t.pending
    | .fault _ => []
    | .refused _ => []) = [.wake] := by decide +kernel

/-! ### Resets and modes (R181 to R189) -/

theorem test_power_on_reset_gives_the_reset_state :
    exec (.powerOnReset ⟨PerBay.fill true, false⟩) State.reset = .next State.reset := rfl

/-- R23: an unfitted bay is ABSENT. -/
theorem test_pin_reset_reads_the_straps :
    let t := after (.pinReset ⟨⟨true, false, true, true⟩, true⟩) busy
    t.moc.resetCause = .pin ∧ t.bsq.b1.state = .absent ∧ t.panels.b1.pending = 0 ∧ t.pli.fastRate = true := by
  decide +kernel

theorem test_startup_ends_in_run : (after .startupEnd State.reset).moc.phase = .run := by decide

theorem test_wake_settles : (after .wake (inPhase .sleep)).moc.phase = .settling := by decide

theorem test_settling_ends_in_standby :
    let t := after .wakeSettlingEnd (inPhase .settling)
    t.moc.phase = .standby ∧ t.supervisor.pending = 0x0801#16 := by decide

/-- R184: the steps in progress are held and the boiler goes to COLD. -/
theorem test_standby_holds :
    let t := after (.plantModeStandby .supervisor false) busy
    t.bsq.b0.state = .held ∧ t.bsq.b0.holds.plantStandby = true ∧ t.blc.state = .cold ∧ t.blc.carry = 0 := by
  decide +kernel

/-- R98, R103, R184: back in RUN the COLD boiler, still at 110 °C, goes on to READY in the event, and the step runs. -/
theorem test_run_releases :
    let t := after (.plantModeRun .supervisor false) (after (.plantModeStandby .supervisor false) busy)
    t.bsq.b0.state = .running ∧ t.blc.state = .ready := by decide +kernel

/-- R185: SLEEP is refused with a step in progress. -/
theorem test_sleep_needs_idle_bays :
    (after (.plantModeSleep .supervisor false) { busy with moc := { busy.moc with phase := .standby } }).moc.phase =
      .standby ∧
    (after (.plantModeSleep .supervisor false) (inPhase .standby)).moc.phase = .sleep := by decide +kernel

/-- R187: a bay in progress parks with no context. -/
theorem test_warm_restart_parks :
    let t := after (.warmRestart .supervisor false) busy
    t.bsq.b0.state = .parking ∧ t.bsq.b0.context = none ∧ t.alc.bays.b0.fan.driven = 8 ∧ t.srs.b0.records = [] ∧
      t.supervisor.pending = 0x0001#16 := by decide +kernel

/-- R188: a fan level above 8 is clamped. -/
theorem test_service_clamps :
    (after (.outputService .supervisor false 0x30#8 0x0C#8) busy).alc.bays.b3.fan.driven = 8 := by decide +kernel

/-- R189: back in AUTO the fan stands at 0 and keeps its service value. -/
theorem test_auto_keeps_the_value :
    (after (.outputServiceAuto .supervisor false 0x30#8 0x00#8)
      (after (.outputService .supervisor false 0x30#8 0x0C#8) busy)).alc.bays.b3.fan = ⟨0, .auto, 8, true⟩ := by
  decide +kernel

/-! ### Link (R168 to R180) -/

/-- R172: the check value of the nine digits. -/
theorem test_crc_of_the_digits :
    crc16 [0x31#8, 0x32#8, 0x33#8, 0x34#8, 0x35#8, 0x36#8, 0x37#8, 0x38#8, 0x39#8] = 0x29B1#16 := by decide +kernel

theorem test_address_opens_a_frame :
    (after (.linkCharacter (cleanChar true 0x40#8)) fresh).pli.rx = .header [] false ∧
    (after (.linkCharacter (cleanChar true 0x41#8)) fresh).pli.rx = .skip := by decide +kernel

/-- R169: one sample of three that differs is noise, and the majority decides. -/
theorem test_majority_and_noise :
    receiveChar ⟨charWord true 0x40#8, charWord true 0x40#8, 0#11⟩ = some ⟨0x40#8, true, true, false, false⟩ ∧
    receiveChar ⟨1#11, 1#11, 0#11⟩ = none := by decide +kernel

theorem test_gap_discards :
    let t := after .idleGapExpiry { fresh with pli := { fresh.pli with rx := .header [] false } }
    t.pli.rx = .hunt ∧ t.supervisor.pending = 0x0003#16 := by decide

theorem test_unknown_source_is_dropped :
    (after (.unknownSourceFrame 0x50#8 0x01#8 [] false) fresh).pli.tx = none := by decide

theorem test_unknown_kind_is_refused :
    (after (.unknownKindRequest .supervisor 0x17#8 [] true) fresh).pli.tx =
      some ⟨.supervisor, 0x17#8, .nak .kindUnknown, true, []⟩ := by decide +kernel

/-- R190: mark on the first character only; destination, source, kind, length, status, flags, CRC. -/
theorem test_response_is_sent :
    ((after .responseSend answering).pli.sent.map WireChar.byte).take 6 =
      [0x41#8, 0x40#8, 0x01#8, 0x02#8, 0x00#8, 0x00#8] ∧ (after .responseSend answering).pli.sent.length = 8 := by
  decide +kernel

theorem test_echo_mismatch_cuts :
    let t := after (.echoMismatch 2 (cleanChar false 0x03#8)) answering
    t.pli.sent = [⟨true, 0x41#8⟩, ⟨false, 0x40#8⟩] ∧ t.supervisor.pending = 0x0003#16 := by decide +kernel

/-- R66: the loss of a bay master parks its program. -/
theorem test_master_lost_parks :
    let t := after (.presenceExpiry (.panel .b0)) busy
    t.bsq.b0.state = .parking ∧ t.supervisor.pending = 0x0101#16 ∧ t.panels.b0.present = false := by decide +kernel

/-- R177. -/
theorem test_ping : (after (.ping .supervisor false) busy).pli.tx =
    some ⟨.supervisor, 0x01#8, .ack, false, [0x00#8, 0x00#8, 0x0F#8]⟩ := by decide +kernel

/-! ### Status and events (R149 to R156) -/

theorem test_status_plant_part1 : (after (.statusPlant .supervisor false 0x01#8) busy).pli.tx =
    some ⟨.supervisor, 0x02#8, .ack, false, [0x01#8, 0x07#8, 0xD0#8, 0x07#8, 0xD0#8, 0x00#8, 0x00#8, 0x00#8]⟩ := by
  decide +kernel

theorem test_status_of_another_bay_is_refused :
    (after (.statusBay (.panel .b0) false 0x01#8 0x00#8) busy).pli.tx =
      some ⟨.panel .b0, 0x03#8, .nak .notPermitted, false, []⟩ := by decide +kernel

theorem test_events_read : (after (.eventsRead .supervisor false) fresh).pli.tx =
    some ⟨.supervisor, 0x04#8, .ack, false, [0x00#8, 0x01#8, 0x0F#8, 0xFF#8]⟩ := by decide +kernel

theorem test_events_clear_releases_the_line :
    (after (.eventsClear .supervisor false 0x0001#16) fresh).supervisor.line = false := by decide +kernel

theorem test_events_mask_releases_the_line :
    (after (.eventsMask .supervisor false 0x0800#16) fresh).supervisor.line = false := by decide +kernel

/-! ### Queues and outcomes (R21 to R38, R142 to R148) -/

theorem test_append_at_the_wrong_position :
    (after (.stepAppend (.panel .b0) false 0x00#8 0x01#8 [record 0x01#8 0x01#8]) busy).pli.tx =
      some ⟨.panel .b0, 0x07#8, .nak .position, false, [0x03#8]⟩ := by decide +kernel

/-- R33: an IDLE bay takes the program up at once; its boiler start is examined too (R98). -/
theorem test_append_admits :
    let s := setBsq .b3 (bayIn .idle none HoldSet.empty) busy
    let t := after (.stepAppend (.panel .b3) false 0x03#8 0x00#8 [record 0x05#8 0x01#8]) s
    t.bsq.b3.state = .running ∧ t.bsq.b3.admission = 2 ∧ t.oau.b3.reservation = true ∧ t.srs.b3.admitted = 1 := by
  decide +kernel

theorem test_cancel_leaves_the_admitted_part :
    let t := after (.queueCancel (.panel .b0) false 0x00#8) busy
    t.srs.b0.records.length = 2 ∧ t.srs.b0.p = 2 ∧ (t.oau.b0.records.map Outcome.removed) = [some (1, 1)] := by
  decide +kernel

theorem test_outcome_read_of_an_empty_ring :
    (after (.outcomeRead (.panel .b3) false 0x03#8) busy).pli.tx =
      some ⟨.panel .b3, 0x09#8, .ack, false, [0x03#8, 0x00#8, 0x00#8, 0x00#8]⟩ := by decide +kernel

theorem test_outcome_free :
    let t := after (.outcomeFree (.panel .b0) false 0x00#8 0x02#8) (withOutcomes 3)
    t.oau.b0.records.length = 1 ∧ t.oau.b0.f = 2 ∧ t.oau.b0.q = 3 := by decide +kernel

/-! ### Bays (chapter 3) -/

theorem test_pause_holds :
    let t := after (.bayPause (.panel .b0) false 0x00#8 0x01#8) busy
    t.bsq.b0.state = .held ∧ t.bsq.b0.holds.paused = true ∧ t.blc.valves.b0 = false := by decide +kernel

theorem test_resume_runs :
    (after (.bayResume (.panel .b0) false 0x00#8 0x01#8) (after (.bayPause (.panel .b0) false 0x00#8 0x01#8) busy)).bsq.b0.state =
      .running := by decide +kernel

theorem test_abort_parks :
    let t := after (.programAbort .supervisor false 0x00#8 0x01#8) busy
    t.bsq.b0.state = .parking ∧ t.oau.b0.promise = false ∧ t.alc.bays.b0.fan.driven = 8 := by decide +kernel

theorem test_abort_of_another_number :
    (after (.programAbort .supervisor false 0x00#8 0x02#8) busy).pli.tx =
      some ⟨.supervisor, 0x0D#8, .nak .badState, false, [0x03#8, 0x01#8]⟩ := by decide +kernel

theorem test_bay_clear : (after (.bayClear .supervisor false 0x03#8) busy).bsq.b3.state = .idle := by decide +kernel

/-- R58, R59: the STEAM step with a goal is SHORT, and the SOAK step behind it starts. -/
theorem test_duration_ends_the_step :
    let t := after (.stepDurationExpiry .b0) busy
    (t.oau.b0.records.map Outcome.result) = [.short] ∧ t.bsq.b0.state = .running ∧
      (t.bsq.b0.context.map Context.index) = some 1 := by decide +kernel

theorem test_stall_parks : (after (.stall .b1) busy).bsq.b1.state = .parking := by decide +kernel

theorem test_park_ends_at_forty_degrees :
    let t := after (.parkTimer .b2 .minimum) busy
    t.bsq.b2.state = .idle ∧ (t.oau.b2.records.map Outcome.result) = [.aborted] ∧ t.srs.b2.records = [] := by
  decide +kernel

theorem test_park_goes_on_while_hot :
    (after (.parkTimer .b2 .minimum)
      { busy with snu := { busy.snu with temps := PerBay.fill (validAt 41) } }).bsq.b2.state = .parking := by
  decide +kernel

/-! ### Power (chapter 4) -/

/-- The table of R74. -/
theorem test_budget_values :
    (after (.budgetSet .supervisor false 1234) busy).pae.budget = 1230 ∧
    (after (.budgetSet .supervisor false 0) busy).pae.budget = 800 ∧
    (after (.budgetSet .supervisor false 0xFFFF) busy).pae.budget = 3600 := by decide +kernel

/-- R88: the READY boiler with one bay steaming at level 5 asks 150 × 6 W, and R2 covers it. -/
theorem test_round_grants_the_boiler :
    (after .allotmentRound busy).pae.grants.boiler = 900 ∧
    (after .allotmentRound busy).pae.grants.unallotted = 1960 - 900 := by decide +kernel

/-- R90, R91, the worked round of the manual: R2 = 1281 W among the boiler (900 W, weight 9) and bays 0 (300 W, weight 6) and
2 (150 W, weight 3). -/
theorem test_worked_shares :
    (shareHeaters 1281 [⟨none, 900, 150, 9, 0⟩, ⟨some .b0, 300, 50, 6, 0⟩, ⟨some .b2, 150, 50, 3, 0⟩]).map
      Requestor.grant = [750, 300, 150] := by decide +kernel

/-- R110, the worked sequence at a steady grant of 750 W: 132 mg and a carry of 2076. -/
theorem test_steam_yield_and_carry :
    let t := after .steamYield { busy with
      pae := { busy.pae with grants := { busy.pae.grants with boiler := 750 } }, blc := { busy.blc with carry := 0 } }
    t.blc.lastYield = 132 ∧ t.blc.carry = 2076 ∧ t.blc.pointer = .b1 := by decide +kernel

/-- R114: the step lacks 100 mg of the 233 yielded, is credited 100 and ends with DONE. -/
theorem test_steam_credit_fills_the_target :
    let t := after .steamYield busy
    t.blc.credits.b0 = 100 ∧ t.blc.lastYield = 233 ∧ t.blc.carry = 495 ∧
      (t.oau.b0.records.map Outcome.result) = [.done] := by decide +kernel

theorem test_heater_drive_follows_the_entry :
    (after .heaterDriveUpdate { busy with pae := { busy.pae with grants :=
      { busy.pae.grants with aux := ⟨0, 250, 0, 0⟩ } } }).alc.bays.b1.drive = 250 := by decide +kernel

theorem test_no_power_is_lifted :
    (after (.noPowerReevaluation .b1) { busy with pae := { busy.pae with grants :=
      { busy.pae.grants with compressor := 600 } } }).bsq.b1.state = .running := by decide +kernel

/-! ### Sensing (chapter 7) -/

/-- R132: the third agreeing sample holds the step and closes its valve. -/
theorem test_front_opens :
    let t := after (.switchSample (.front .b0) true)
      { busy with snu := { busy.snu with fronts := busy.snu.fronts.set .b0 (almost true) } }
    t.bsq.b0.holds.frontOpen = true ∧ t.bsq.b0.state = .held ∧ t.blc.valves.b0 = false := by decide +kernel

theorem test_second_sample_reaches_no_consumer :
    let t := after (.switchSample (.front .b0) true)
      { busy with snu := { busy.snu with fronts := busy.snu.fronts.set .b0 ⟨true, true, false, 1, true⟩ } }
    t.bsq.b0.state = .running ∧ t.snu.fronts.b0.run = 2 := by decide +kernel

/-- R136: 428 and 435 are 41 °C, 427 and 420 are 40 °C, and a boiler code of 574 is 102 °C. -/
theorem test_conversions :
    [428#10, 435#10, 427#10, 420#10].map (convert (.bayTemperature .b0)) = [some 41, some 41, some 40, some 40] ∧
    convert .boilerTemperature 574#10 = some 102 ∧ convert (.bayHumidity .b0) 901#10 = none := by decide +kernel

/-- R102: below 96 °C a READY boiler goes to HEAT, and the STEAM step is held. -/
theorem test_reheat :
    let t := after (.analogSample .boilerTemperature 543#10) busy
    t.blc.state = .heat ∧ t.bsq.b0.holds.noSteam = true ∧ t.blc.carry = 0 := by decide +kernel

/-! ### Boiler timers and the store (chapters 5 and 9) -/

theorem test_fill_timeout_starves : (after .fillTimeout (withBoiler .fill)).blc.state = .starved := by decide +kernel

theorem test_cooldown_needs_steam_unwanted :
    (after .idleCooldown busy).blc.state = .ready ∧
    (after .idleCooldown { fresh with blc := { fresh.blc with state := .ready } }).blc.state = .cold := by
  decide +kernel

theorem test_boiler_clear :
    let s := { withBoiler .locked with
      blc := { (withBoiler .locked).blc with cause := .cutout }
      snu := { busy.snu with boilerTemp := validAt 89 } }
    (after (.boilerClear .supervisor false) s).blc.state = .heat ∧
    (after (.boilerClear .supervisor false) { s with snu := { s.snu with boilerTemp := validAt 90 } }).blc.state =
      .locked := by decide +kernel

theorem test_profile_read_of_an_empty_slot :
    (after (.profileRead .supervisor false 0x06#8) busy).pli.tx.map (fun r => r.payload.take 2) =
      some [0x06#8, 0x00#8] := by decide +kernel

/-- The clamping examples of R160. -/
theorem test_profile_write_clamps :
    (after (.profileWrite .supervisor false 0x06#8 0x01#8 ⟨85, 500, 0, 150, 10, 0⟩) busy).pts.table[6]? =
      some (some ⟨70, 400, 1, 120, 20, 60⟩) := by decide +kernel

/-- R163: a commit that passes every check. -/
theorem test_commit_succeeds :
    let begun := after (.profileCommit .supervisor false) busy
    let done := after (.commitPhaseEnd true) (after (.commitPhaseEnd true) (after (.commitPhaseEnd true)
      (after (.commitPhaseEnd true) (after (.commitPhaseEnd true) begun))))
    begun.pts.phase = .erasing ∧ begun.pts.marker = false ∧ done.pts.phase = .idle ∧ done.pts.marker = true ∧
      done.pts.lastResult = .done ∧ done.supervisor.pending = 0x0201#16 := by decide +kernel

theorem test_commit_fails_at_its_second_verify :
    let t := after (.commitPhaseEnd false)
      { busy with pts := { busy.pts with phase := .verifying, rewritten := true } }
    t.pts.lastResult = .fail ∧ t.pts.dirty = true ∧ t.supervisor.pending = 0x0401#16 := by decide +kernel

/-! ### Witnesses: the hypotheses of the statements can be met together

Each theorem is named after its statement and gives, clause by clause, a state and operands that meet the clause. -/

/-- The cabinet at work obeys every law of a safe run. -/
theorem busy_safe : Safe busy := by
  refine ⟨⟨?_, ?_⟩, ?_, ?_, ?_, ?_, ?_, ?_, ?_, ?_, ?_, ?_, ?_, ?_, ?_, ?_, ?_, ?_⟩
  · unfold LineFollows; decide +kernel
  · intro b; unfold LineFollows; cases b <;> decide +kernel
  · intro b h; cases b <;> cases h
  · intro b
    cases b <;> refine ⟨by decide +kernel, by decide +kernel, ?_, by decide +kernel⟩ <;> intro hs x h <;> cases h <;>
      first | exact absurd hs (by decide +kernel) | decide +kernel
  · intro b
    cases b <;> refine ⟨by decide +kernel, by decide +kernel, by decide +kernel, ?_⟩
    · exact ⟨by decide +kernel, by decide +kernel⟩
    · exact ⟨by decide +kernel, by decide +kernel⟩
    · exact ⟨by decide +kernel, by decide +kernel⟩
    · rfl
  · intro b; unfold OutcomeCounts; cases b <;> decide +kernel
  · unfold BudgetLaw; decide +kernel
  · unfold TotalsLaw; decide +kernel
  · unfold CompressorLaw; decide +kernel
  · unfold BoilerRestLaw; decide +kernel
  · unfold CarryLaw; decide +kernel
  · unfold BoilerGrantLaw; decide +kernel
  · intro b; cases b <;> decide +kernel
  · refine ⟨?_, ?_, ?_, ?_, ?_⟩
    · intro b; cases b <;> decide +kernel
    · intro b x h; cases b <;> cases h <;> decide +kernel
    · intro i p; fin_cases i <;> intro h <;> cases h <;> decide +kernel
    · intro t h; cases h
    · intro t h; cases h
  · intro b; cases b <;> decide +kernel
  · unfold AsleepLaw; intro h; exact absurd h (by decide +kernel)
  · intro b; cases b <;> decide +kernel
  · intro b x h; cases b <;> cases h <;> decide +kernel

theorem busy_bays : BaysLaw busy := busy_safe.2.2.1

theorem busy_awake : Awake busy := .inl rfl

/-- The same cabinet in STANDBY, asleep before its steps were known, and with its compressor ON. -/
def idled : State := { busy with moc := { busy.moc with phase := .standby } }
def drying : State := { busy with
  pae := { busy.pae with compressorOn := true, grants := { busy.pae.grants with compressor := 600, class1 := 600 } }
  alc := { busy.alc with compressorDrive := true } }

/-- The laws hold together in a cabinet at work, and it takes a step. -/
theorem witness_LinesAndUnfittedBaysAreKept :
    LineLaw busy ∧ UnfittedLaw busy ∧ ∃ t, step busy = .next t := ⟨busy_safe.1, busy_safe.2.1, _, rfl⟩

theorem witness_ProgramsAndRingsStayInStep :
    OutcomesLaw busy ∧ (∀ b, CopiesLaw (busy.bsq.get b)) ∧ BaysLaw busy ∧ RingsLaw busy ∧ EntriesLaw busy ∧
    ∃ t, step busy = .next t := by
  obtain ⟨_, _, h3, h4, h5, _, _, _, _, _, _, _, _, _, _, h16, h17⟩ := busy_safe
  exact ⟨h5, h17, h3, h4, h16, _, rfl⟩

theorem witness_PowerLawsAreKept :
    BudgetLaw busy ∧ TotalsLaw busy ∧ CompressorLaw busy ∧ FanLaw busy ∧ ∃ t, step busy = .next t := by
  obtain ⟨_, _, _, _, _, h6, h7, h8, _, _, _, _, h13, _, _, _, _⟩ := busy_safe
  exact ⟨h6, h7, h8, h13, _, rfl⟩

theorem witness_BoilerAndHeatLawsAreKept :
    CarryLaw busy ∧ BoilerGrantLaw busy ∧ BoilerRestLaw busy ∧ ValveLaw busy ∧ BaysLaw busy ∧ AsleepLaw busy ∧
    HeaterLaw busy ∧ (∀ b, CopiesLaw (busy.bsq.get b)) ∧ ∃ t, step busy = .next t := by
  obtain ⟨_, _, h3, _, _, _, _, _, h9, h10, h11, h12, _, h14, h15, _, h17⟩ := busy_safe
  exact ⟨h10, h11, h9, h12, h3, h15, h14, h17, _, rfl⟩

/-- A quiet millisecond of a part starting up, and of one with a bay RUNNING, one WAITING, one HELD and one PARKING, each timer
one short of where it stops or falls due; a response that is due. -/
theorem witness_EmptyQueueTakesDueEventOrCountsTimers :
    let x : Context := { steamThenSoak with stepTimer := 99999, heldTime := 65534999, stallTimer := 899999 }
    let q (st : BayState) : Bsq :=
      { bayIn st (some x) (if st = .held then noPowerOnly else HoldSet.empty) with parkTimer := 179999, parkMinTaken := true }
    let quiet : State := { fresh with bsq := ⟨q .running, q .waiting, q .held, q .parking⟩ }
    (State.reset.pending = [] ∧ dueCommand State.reset = none) ∧ (quiet.pending = [] ∧ dueCommand quiet = none) ∧
    (answering.pending = [] ∧ dueCommand answering = some .responseSend) := by decide +kernel

theorem witness_StartupEndsInRun : State.reset.moc.phase = .startUp ∧ fresh.moc.phase ≠ .startUp := by decide

theorem witness_WakeSetsInputsAndPresenceAfresh :
    (inPhase .sleep).moc.phase = .sleep ∧ (inPhase .sleep).pli.tx = none ∧
    receiveChar (cleanChar true 0x40#8) = some ⟨0x40#8, true, false, false, false⟩ := by decide +kernel

/-- A data character, an address character of another node and a character with a framing error. -/
theorem witness_CharactersOutsideRunningOnlyWakeOrSkip :
    receiveChar (cleanChar false 0x40#8) = some ⟨0x40#8, false, false, false, false⟩ ∧
    receiveChar (cleanChar true 0x41#8) = some ⟨0x41#8, true, false, false, false⟩ ∧
    receiveChar ⟨0x280#11, 0x280#11, 0x280#11⟩ = some ⟨0x40#8, true, false, true, false⟩ ∧
    State.reset.moc.phase = .startUp ∧ (inPhase .settling).moc.phase = .settling ∧ (inPhase .sleep).pli.tx = none := by
  decide +kernel

theorem witness_SettlingEndsInStandbyWithWoke :
    (inPhase .settling).moc.phase = .settling ∧ fresh.moc.phase ≠ .settling := by decide

/-- A bay in progress, a bay in PARKING, a queued program behind an admitted one, a commit in progress. -/
theorem witness_PlantModeRequestsWithoutEffect :
    fresh.moc.phase = .run ∧ idled.moc.phase = .standby ∧ inProgress (idled.bsq.get .b0) = true ∧
    (idled.bsq.get .b2).state = .parking ∧ queuedPrograms (idled.srs.get .b0) = 1 ∧
    { idled with pts := { idled.pts with phase := .marking } }.pts.phase ≠ .idle := by decide +kernel

theorem witness_StandbyHoldsStepsAndStopsThePlant :
    BaysLaw busy ∧ BaysLaw drying ∧ (drying.moc.phase = .run ∧ drying.pae.compressorOn = true ∧
      (startedCopy (drying.bsq.get .b0)).isSome = true ∧ startedCopy (drying.bsq.get .b2) = none ∧
      busy.pae.compressorOn = false ∧ (withBoiler .locked).blc.state = .locked) :=
  ⟨busy_bays, busy_bays, by decide +kernel⟩

theorem witness_RunReleasesHeldSteps : BaysLaw idled ∧ idled.moc.phase = .standby ∧
    (startedCopy (idled.bsq.get .b1)).isSome = true := ⟨busy_bays, rfl, rfl⟩

theorem witness_SleepStopsEveryOutputAndKeepsTheRest :
    (inPhase .standby).moc.phase = .standby ∧
    (∀ b, (((inPhase .standby).bsq.get b).state = .idle ∨ ((inPhase .standby).bsq.get b).state = .absent ∨
      ((inPhase .standby).bsq.get b).state = .faulted) ∧ queuedPrograms ((inPhase .standby).srs.get b) = 0) ∧
    (inPhase .standby).pts.phase = .idle := by
  refine ⟨rfl, ?_, rfl⟩
  intro b; cases b <;> decide +kernel

theorem witness_WarmRestartClearsAndKeeps :
    Awake busy ∧ inProgress (busy.bsq.get .b0) = true ∧ inProgress (busy.bsq.get .b3) = false ∧
    busy.fitted.get .b0 = true := ⟨busy_awake, rfl, rfl, rfl⟩

/-- The last output of bay 3, its damper at 0 and not, a bay at work, the pump with a cold and with a hot boiler. -/
theorem witness_ServiceDrivesTheClampedValue :
    Awake busy ∧ (busy.fitted.get .b3 = true ∧ (busy.bsq.get .b3).state = .faulted ∧
      outputOf 0x30#8 = some (.fan .b3) ∧ outputOf 0x31#8 = some (.damper .b3) ∧ outputOf 0x32#8 = some (.osc .b3) ∧
      (busy.bsq.get .b0).state ≠ .idle ∧ (busy.bsq.get .b0).state ≠ .faulted ∧ outputOf 0x00#8 = some (.fan .b0) ∧
      outputOf 0x40#8 = some .pump ∧ (withBoiler .starved).blc.state = .starved ∧ busy.blc.state = .ready) :=
  ⟨busy_awake, by decide +kernel⟩

/-- Bay 3 with its fan and damper in SERVICE, or its damper and oscillator, and the pump in SERVICE on a STARVED boiler. -/
def serviced : State :=
  { setOutputs .b3
      { fan := ⟨3, .service, 3, false⟩, damper := ⟨.opened, .service, .opened, false⟩
        osc := ⟨9, .service, 9, false⟩, demand := 0, drive := 0 } (withBoiler .starved) with
    moc := { busy.moc with pumpMode := .service, pumpValue := true } }

/-- Every output serviced, one serviced alone, one in AUTO; the pump serviced under a STARVED and a COLD boiler, and in AUTO. -/
theorem witness_AutoReturnsServicedOutputs :
    Awake serviced ∧ (serviced.fitted.get .b3 = true ∧ (serviced.alc.bays.get .b3).fan.mode = .service ∧
      (serviced.alc.bays.get .b3).damper.mode = .service ∧ (serviced.alc.bays.get .b3).osc.mode = .service ∧
      outputOf 0x30#8 = some (.fan .b3) ∧ outputOf 0x31#8 = some (.damper .b3) ∧ outputOf 0x32#8 = some (.osc .b3) ∧
      (busy.alc.bays.get .b3).fan.mode = .auto ∧ (busy.alc.bays.get .b3).damper.mode = .auto ∧
      (busy.alc.bays.get .b3).osc.mode = .auto ∧
      (after (.outputService .supervisor false 0x30#8 0x03#8) busy).alc.bays.b3.fan.mode = .service ∧
      (after (.outputService .supervisor false 0x30#8 0x03#8) busy).alc.bays.b3.damper.mode = .auto ∧
      serviced.moc.pumpMode = .service ∧ serviced.blc.state = .starved ∧ (withBoiler .cold).blc.state = .cold ∧
      steamWanted (withBoiler .cold) = true ∧ busy.moc.pumpMode = .auto ∧
      serviced.snu.freshEmpty.filtered = false) := ⟨.inl rfl, by decide +kernel⟩

/-- A receiver in another state, in a part that is awake with no response waiting. -/
def receiving (rx : Rx) : State := { fresh with pli := { fresh.pli with rx := rx } }

/-- A false start, a break, and clean characters of both marks, in each state of the receiver; a length of 0, 48 and 49. -/
theorem witness_CharactersMoveFrameAssembly :
    (∀ rx, Awake (receiving rx) ∧ (receiving rx).pli.tx = none ∧ (receiving rx).pli.rx = rx) ∧
    (receiveChar ⟨1#11, 1#11, 1#11⟩ = none ∧ receiveChar ⟨0#11, 0#11, 0#11⟩ = some ⟨0#8, false, false, true, true⟩ ∧
      receiveChar ⟨0x002#11, 0x002#11, 0x002#11⟩ = some ⟨1#8, false, false, true, false⟩ ∧
      receiveChar (cleanChar true 0x40#8) = some ⟨0x40#8, true, false, false, false⟩ ∧
      receiveChar (cleanChar false 0#8) = some ⟨0#8, false, false, false, false⟩ ∧
      receiveChar (cleanChar false 48#8) = some ⟨48#8, false, false, false, false⟩ ∧
      receiveChar (cleanChar false 49#8) = some ⟨49#8, false, false, false, false⟩ ∧
      assembling (.header [0x41#8] false) = true) :=
  ⟨fun _ => ⟨.inl rfl, rfl, rfl⟩, by decide +kernel⟩

theorem witness_FrameSentInCharactersIsAccepted :
    Awake fresh ∧ fresh.pli.tx = none ∧ fresh.pli.rx = .hunt ∧ (List.replicate 48 0#8).length ≤ 48 :=
  ⟨.inl rfl, rfl, rfl, by decide⟩

theorem witness_RequestFrameIsTakenAsItsRequest :
    lengthOk .ping = true ∧ lengthOk (.stepAppend 0 0 [record 1 1]) = true ∧
    lengthOk (.stepAppend 0 0 (List.replicate 4 (record 1 1))) = true := by decide

theorem witness_GapExpiryAndUnknownSourceAnswerNothing :
    (Awake (receiving (.header [] false)) ∧ (receiving (.header [] false)).pli.tx = none ∧
      assembling (receiving (.header [] false)).pli.rx = true) ∧
    (¬ Awake State.reset ∧ answering.pli.tx ≠ none ∧ assembling fresh.pli.rx = false) ∧
    (Awake fresh ∧ ∀ m, 0x4C#8 ≠ masterAddress m) := by
  refine ⟨⟨.inl rfl, rfl, rfl⟩, ⟨?_, by decide +kernel, rfl⟩, .inl rfl, ?_⟩
  · unfold Awake; decide +kernel
  · intro m
    cases m with
    | supervisor => decide
    | panel b => cases b <;> decide

/-- A cabinet whose bay 3 is not fitted. -/
def partly : State := { busy with fitted := ⟨true, true, true, false⟩ }

/-- One frame for each check: unfitted master, unknown kind, not entitled, wrong length, index 4, unfitted bay, another's bay,
and a request that passes. -/
theorem witness_CommonChecksDecideInOrder :
    Awake partly ∧ (masterFitted (.panel .b3) partly = false ∧ masterFitted .supervisor partly = true ∧
      reqOfCode 0x17#8 = none ∧ entitled (.panel .b0) .budgetSet = false ∧ entitled .supervisor .budgetSet = true ∧
      parseRequest .budgetSet [] = none ∧ parseRequest .outcomeRead [0x04#8] = some (.outcomeRead 0x04#8) ∧
      indexOk (.outcomeRead 0x04#8) = false ∧ indexOk (.outcomeRead 0x03#8) = true ∧
      bayNamed (.outcomeRead 0x03#8) = some .b3 ∧ (heard .supervisor partly).fitted.get .b3 = false ∧
      ownBay (.panel .b0) .b1 = false ∧ ownBay .supervisor .b1 = true) := ⟨.inl rfl, by decide +kernel⟩

theorem witness_WaitingResponseIsSentWhole :
    answering.pli.tx = some ⟨.supervisor, 0x01#8, .ack, false, []⟩ ∧ fresh.pli.tx = none := ⟨rfl, rfl⟩

/-- The last character of a response of eight, read back wrong and right. -/
theorem witness_EchoMismatchCutsTheResponse :
    let r : Response := ⟨.supervisor, 0x01#8, .ack, false, []⟩
    answering.pli.tx = some r ∧ (responseChars r)[0]? = some ⟨true, 0x41#8⟩ ∧ (responseChars r)[7]?.isSome = true ∧
    (receiveChar (cleanChar true 0x42#8)).map RxChar.byte = some 0x42#8 ∧
    receiveChar (cleanChar true 0x41#8) = some ⟨0x41#8, true, false, false, false⟩ := by decide +kernel

theorem witness_TurnaroundAddressDiscardsTheResponse :
    Awake answering ∧ answering.pli.tx ≠ none ∧
    receiveChar (cleanChar true 0x40#8) = some ⟨0x40#8, true, false, false, false⟩ ∧
    receiveChar (cleanChar false 0x40#8) = some ⟨0x40#8, false, false, false, false⟩ :=
  ⟨.inl rfl, by decide +kernel, by decide +kernel, by decide +kernel⟩

theorem witness_PresenceExpiryRaisesMasterLost :
    Awake busy ∧ (busy.supervisor.present = true ∧ fresh.supervisor.present = false ∧
      (busy.panels.get .b0).present = true ∧ inProgress (busy.bsq.get .b0) = true ∧
      inProgress (busy.bsq.get .b3) = false ∧ (fresh.panels.get .b0).present = false) :=
  ⟨busy_awake, by decide +kernel⟩

theorem witness_ReadingRequestsAnswerAndChangeNothing :
    Awake busy ∧ (masterFitted .supervisor busy = true ∧ masterFitted (.panel .b3) busy = true ∧
      (0x03#8).toNat ≤ 3 ∧ busy.fitted.get .b3 = true ∧ ownBay (.panel .b3) .b3 = true ∧ (0x0F#8).toNat ≤ 15) :=
  ⟨busy_awake, by decide +kernel⟩

/-- Two records of 22 bytes do not fit in 42, and five short ones are one too many. -/
theorem witness_OutcomeReadCarriesOldestRecordsWhole :
    (fitRecords 4 42 (List.replicate 5 someOutcome)).length < 5 := by decide +kernel

theorem witness_EventRequestsActOnTheirSender :
    Awake busy ∧ masterFitted .supervisor busy = true ∧ masterFitted (.panel .b0) busy = true :=
  ⟨busy_awake, rfl, rfl⟩

/-- Positions right and wrong, profile 15 and 16, a ring with room for the batch and one without, eight steps and nine. -/
theorem witness_StepAppendChecksInOrderThenWrites :
    Awake busy ∧ (busy.fitted.get .b0 = true ∧ (0x02#8) ≠ (heard (.panel .b0) busy).srs.b0.p ∧
      (0x03#8) = (heard (.panel .b0) busy).srs.b0.p ∧ (∃ x ∈ [{ record 1 1 with profile := 16 }], 15 < x.profile.toNat) ∧
      (∀ x ∈ [{ record 1 1 with profile := 15 }], x.profile.toNat ≤ 15) ∧
      (heard (.panel .b0) busy).srs.b0.records.length + 4 ≤ 16 ∧ 16 < 13 + [record 1 1, record 1 1, record 1 1, record 1 1].length ∧
      openAfter 8 [record 1 0] = none ∧ openAfter 7 [record 1 0] = some 8 ∧
      (∀ x ∈ [record 1 0], isEnd x = false) ∧ (∃ x ∈ [record 1 1], isEnd x = true) ∧
      (heard (.panel .b0) busy).bsq.b0.state ≠ .idle) := ⟨busy_awake, by decide +kernel⟩

theorem witness_OpenLengthFollowsTheBatch :
    (8 ≤ 8 ∧ openAfter 8 [] = some 8) ∧ (∀ x ∈ [record 1 0], isEnd x = false) ∧ isEnd (record 1 1) = true := by decide

/-- Nothing behind the admitted part, a full outcome ring, one free entry. -/
theorem witness_QueueCancelRemovesWhatIsBehind :
    Awake busy ∧ (busy.fitted.get .b0 = true ∧
      (heard (.panel .b1) busy).srs.b1.records.drop (heard (.panel .b1) busy).srs.b1.admitted = [] ∧
      (heard (.panel .b0) busy).srs.b0.records.drop (heard (.panel .b0) busy).srs.b0.admitted = [record 5 1] ∧
      freeEntries (heard (.panel .b0) (withOutcomes 6)).oau.b0 = 0 ∧
      freeEntries (heard (.panel .b0) (withOutcomes 5)).oau.b0 = 1) := ⟨busy_awake, by decide +kernel⟩

/-- A cabinet whose bay 3 is ready to take up the programs of its ring, with slot 0 VALID and slot 1 EMPTY. -/
def admitting (records : List StepRecord) : State :=
  let p : Profile := { maxAirTemp := 60, maxDose := 60, maxFan := 6, maxOsc := 20, dryFloor := 50, maxStep := 1200 }
  setRing .b3 ⟨records, byteOf records.length, 0, 0, 0⟩
    { setBsq .b3 (bayIn .idle none HoldSet.empty) busy with
      pts := { busy.pts with table := (Vector.replicate 16 none).set 0 (some p) } }

/-- Nothing freed, one more than is held, all that is held; a bay IDLE, WAITING and neither; a ring with no program, one whose
head fails its first and one whose head fails its last check, and one whose head passes, to wait and not to wait. -/
theorem witness_OutcomeFreeRemovesTheOldest :
    Awake (withOutcomes 3) ∧ ((withOutcomes 3).fitted.get .b0 = true ∧
      (0#8 - (heard (.panel .b0) (withOutcomes 3)).oau.b0.f).toNat = 0 ∧
      (withOutcomes 3).oau.b0.records.length < (4#8 - (withOutcomes 3).oau.b0.f).toNat ∧
      (3#8 - (withOutcomes 3).oau.b0.f).toNat ≤ (withOutcomes 3).oau.b0.records.length ∧
      (heard (.panel .b0) (withOutcomes 3)).bsq.b0.state = .running ∧
      (heard (.panel .b0) waiting).bsq.b0.state = .waiting ∧
      steamThenSoak.copies[steamThenSoak.index]? = some (copyOf .steam 5 (some 60))) ∧
    (admissible .b3 (admitting []) = true ∧ headProgram [record 1 0] = none ∧
      [record 1 0, record 6 1, record 1 1] = [record 1 0] ++ record 6 1 :: [record 1 1] ∧
      isEnd (record 1 0) = false ∧ isEnd (record 6 1) = true ∧
      (heard (.panel .b3) (admitting [])).bsq.b3.state = .idle ∧
      (examineAdmission .b3 (admitting [record 1 0, record 6 1])).oau.b3.records.map Outcome.reject =
        [some (1, .badKind)] ∧
      (examineAdmission .b3 (admitting [{ record 5 1 with goal := 1#16 }])).oau.b3.records.map Outcome.reject =
        [some (0, .goalNotAllowed)] ∧
      (examineAdmission .b3 (admitting [record 1 3, record 5 1])).bsq.b3.state = .running ∧
      (examineAdmission .b3 (setOutcomes .b3 ⟨List.replicate 7 someOutcome, 7, 0, false, false⟩
        (admitting [record 1 2, record 5 1]))).bsq.b3.state = .waiting) := ⟨.inl rfl, by decide +kernel⟩

theorem waiting_bay : BayLaw (waiting.bsq.get .b0) := by
  refine ⟨by decide +kernel, by decide +kernel, ?_, by decide +kernel⟩
  intro h; cases h

theorem witness_PauseAndResumeActOnTheNamedProgram :
    (Awake waiting ∧ BayLaw (waiting.bsq.get .b0) ∧ (waiting.bsq.get .b0).state = .waiting ∧
      (waiting.bsq.get .b0).context = some steamThenSoak ∧ (waiting.bsq.get .b0).admission = 1 ∧
      (waiting.panels.get .b0).present = true) ∧
    (Awake busy ∧ BayLaw (busy.bsq.get .b0) ∧ (busy.bsq.get .b0).state = .running ∧ (busy.bsq.get .b1).state = .held ∧
      (busy.bsq.get .b0).context = some steamThenSoak ∧ (busy.panels.get .b0).present = true) :=
  ⟨⟨.inl rfl, waiting_bay, rfl, rfl, rfl, rfl⟩, busy_awake, busy_bays .b0, rfl, rfl, rfl, rfl⟩

theorem witness_RequestsOnNoProgramAreRefused :
    Awake busy ∧ ((busy.bsq.get .b0).admission ≠ 2 ∧ (busy.bsq.get .b3).state = .faulted ∧
      (busy.bsq.get .b2).state = .parking ∧ (busy.bsq.get .b2).context ≠ none ∧ (busy.bsq.get .b2).admission = 1 ∧
      (bayIn .parking none HoldSet.empty).context = none ∧ (busy.panels.get .b2).present = true) :=
  ⟨busy_awake, by decide +kernel⟩

theorem witness_AbortParksTheNamedProgram :
    Awake busy ∧ (busy.fitted.get .b0 = true ∧ inProgress ((heard .supervisor busy).bsq.get .b0) = true ∧
      ((heard .supervisor busy).bsq.get .b0).admission = 1 ∧ (busy.alc.bays.get .b0).fan.mode = .auto) :=
  ⟨busy_awake, by decide +kernel⟩

theorem witness_BayClearNeedsFaultedAndValid :
    Awake busy ∧ (busy.fitted.get .b3 = true ∧ (busy.bsq.get .b3).state = .faulted ∧
      (busy.snu.temps.get .b3).state = .valid ∧ (busy.snu.hums.get .b3).state = .valid ∧
      (busy.bsq.get .b0).state ≠ .faulted ∧ (fresh.snu.temps.get .b3).state ≠ .valid) := ⟨busy_awake, by decide +kernel⟩

/-- A final step and one that is not. -/
theorem witness_DurationEndsTheStep :
    (busy.bsq.get .b3).state ≠ .running ∧ (busy.bsq.get .b0).state = .running ∧
    (busy.bsq.get .b0).context = some steamThenSoak ∧
    steamThenSoak.copies[steamThenSoak.index]? = some (copyOf .steam 5 (some 60)) ∧
    steamThenSoak.index + 1 < steamThenSoak.stepCount ∧
    (contextOf [copyOf .steam 5 none]).stepCount ≤ (contextOf [copyOf .steam 5 none]).index + 1 := by decide +kernel

theorem witness_StallParksTheHeldProgram :
    (busy.bsq.get .b0).state ≠ .held ∧ (busy.bsq.get .b1).state = .held ∧
    hasPlantReason (busy.bsq.get .b1).holds = true ∧ (busy.bsq.get .b1).context.isSome = true ∧
    hasPlantReason { HoldSet.empty with paused := true } = false ∧ busy.fitted.get .b1 = true := by decide +kernel

/-- A park at 40 °C and at 41 °C, with a context and without, with the fault indication and without, before and after its 20 s
event; samples of 40 and 41 °C and an invalid one. -/
theorem witness_ParkTimerEndsThePark :
    let bare : Bsq := bayIn .parking none HoldSet.empty
    let hot : State := { busy with snu := { busy.snu with temps := PerBay.fill (validAt 41) } }
    (busy.bsq.get .b0).state ≠ .parking ∧ (busy.bsq.get .b2).state = .parking ∧
    (busy.bsq.get .b2).parkMinTaken = false ∧ { bare with parkMinTaken := true }.parkMinTaken = true ∧
    ((busy.snu.temps.get .b2).last = some 40 ∧ (busy.snu.temps.get .b2).state = .valid) ∧
    (hot.snu.temps.get .b2).last = some 41 ∧
    ((busy.bsq.get .b2).context.bind Context.pendingResult) = some .aborted ∧ bare.context = none ∧
    bare.faultAfterPark = false ∧ { bare with faultAfterPark := true }.faultAfterPark = true ∧
    20000 ≤ { bare with parkTimer := 20000 }.parkTimer ∧ { bare with parkTimer := 19999 }.parkTimer < 20000 ∧
    busy.fitted.get .b2 = true ∧ busy.moc.phase ≠ .sleep ∧ convert (.bayTemperature .b2) 420#10 = some 40 ∧
    convert (.bayTemperature .b2) 428#10 = some 41 ∧ convert (.bayTemperature .b2) 99#10 = none := by decide +kernel

theorem witness_BudgetSetAppliesTheClampedValue :
    Awake busy ∧ ((800#16).toNat ≤ 800 ∧ 3600 ≤ (3600#16).toNat ∧ 800 ≤ (3599#16).toNat ∧ (3599#16).toNat ≤ 3600) :=
  ⟨busy_awake, by decide⟩

/-- The cabinet at work on the smallest budget. -/
def scarce : State := { busy with pae := { busy.pae with budget := 800, effective := 800 } }

/-- A round with power enough for the heaters, and one of 760 W, less than the boiler's demand. -/
theorem witness_RoundSharesTheBudgetLessTheReserve :
    ¬ Awake State.reset ∧ (withBoiler .cold).blc.state ≠ .heat ∧ (withBoiler .cold).blc.state ≠ .ready ∧
    (Awake busy ∧ BudgetLaw busy ∧ HeaterLaw busy ∧ (∀ b, (busy.alc.bays.get b).fan.driven ≤ 8) ∧
      sumDemands (requestors busy) ≤ busy.pae.effective - 40 - classZero busy) ∧
    (Awake scarce ∧ BudgetLaw scarce ∧ HeaterLaw scarce ∧ (∀ b, (scarce.alc.bays.get b).fan.driven ≤ 8) ∧
      scarce.pae.effective - 40 - classZero scarce < sumDemands (requestors scarce)) := by
  have heat : HeaterLaw busy := by
    obtain ⟨_, _, _, _, _, _, _, _, _, _, _, _, _, h14, _, _, _⟩ := busy_safe
    exact h14
  exact ⟨by unfold Awake; decide +kernel, by decide, by decide,
    ⟨busy_awake, by unfold BudgetLaw; decide +kernel, heat, fun b => by cases b <;> decide +kernel, by decide +kernel⟩,
    ⟨busy_awake, by unfold BudgetLaw; decide +kernel, fun b => heat b, fun b => by cases b <;> decide +kernel,
      by decide +kernel⟩⟩

/-- The ON compressor at R1 of 599 and 600 W, requested or not, at 59,999 and 60,000 ms; the OFF one at 119,999 and
120,000 ms. -/
theorem witness_RoundDecidesTheCompressor :
    (Awake drying ∧ drying.pae.compressorOn = true ∧ compressorRequested drying = true ∧ classZero drying = 0) ∧
    ({ drying with pae := { drying.pae with effective := 639 } }.pae.effective - 40 - classZero drying < 600 ∧
      600 ≤ { drying with pae := { drying.pae with effective := 640 } }.pae.effective - 40 - classZero drying) ∧
    (Awake fresh ∧ compressorRequested fresh = false ∧ fresh.pae.compressorOn = false) ∧
    (busy.pae.compressorOn = false ∧ compressorRequested busy = true ∧ busy.snu.condFull.filtered = false ∧
      busy.moc.phase = .run ∧ 120000 ≤ { busy.pae with minOff := 120000 }.minOff ∧
      ¬ 120000 ≤ { busy.pae with minOff := 119999 }.minOff) :=
  ⟨⟨.inl rfl, by decide +kernel⟩, by decide +kernel, ⟨.inl rfl, by decide +kernel⟩, by decide +kernel⟩

/-- A step that turns the compressor ON, and one that sheds it. -/
theorem witness_CompressorKeepsItsMinimumTimes :
    let start : State := { busy with pae := { busy.pae with minOff := 120000 }, pending := [.allotmentRound] }
    let short : State := { drying with pae := { drying.pae with effective := 639 }, pending := [.allotmentRound] }
    (∃ t, step start = .next t ∧ start.pae.compressorOn = false ∧ t.pae.compressorOn = true) ∧
    (∃ t, step short = .next t ∧ short.pae.compressorOn = true ∧ t.pae.compressorOn = false) :=
  ⟨⟨_, rfl, rfl, by decide +kernel⟩, ⟨_, rfl, rfl, by decide +kernel⟩⟩

/-- The worked round of the manual: demands of 1350 W, just covered by 1350 W and not by 1349 W. -/
theorem witness_HeaterSharesFillQuantaByWeight :
    let rs : List Requestor := [⟨none, 900, 150, 9, 0⟩, ⟨some .b0, 300, 50, 6, 0⟩, ⟨some .b2, 150, 50, 3, 0⟩]
    (∀ r ∈ rs, 0 < r.quantum ∧ r.quantum ∣ r.demand) ∧ sumDemands rs ≤ 1350 ∧ 1349 < sumDemands rs := by decide +kernel

theorem witness_BoilerClearFillTimeoutAndCooldown :
    (Awake (withBoiler .locked) ∧ (withBoiler .locked).blc.state = .locked ∧
      (withBoiler .locked).snu.boilerCutout.filtered = false ∧ (validAt 89).state = .valid ∧
      (validAt 89).last = some 89 ∧ steamWanted (withBoiler .locked) = true ∧
      (withBoiler .locked).moc.pumpMode = .auto ∧ steamWanted fresh = false) ∧
    (busy.blc.state ≠ .locked ∧ fresh.snu.boilerCutout.filtered = true ∧ ¬ 90 < 90) ∧
    ((withBoiler .fill).blc.state = .fill ∧ busy.blc.state ≠ .fill) ∧
    ({ fresh.blc with state := .heat }.state = .heat ∧ busy.blc.state = .ready ∧ steamWanted busy = true) :=
  ⟨⟨.inl rfl, by decide +kernel⟩, by decide +kernel, by decide +kernel, by decide +kernel⟩

/-- The READY boiler with bay 0 steaming; credits of 100 mg that fill the step of bay 0, and a step that lacks more. -/
theorem witness_SteamYieldKeepsTheRemainderAndCredits :
    let lacking : State := withBay0 (bayIn .running
      (some { contextOf [copyOf .steam 5 (some 60)] with delivered := 0 }) HoldSet.empty)
    (busy.blc.state = .ready ∧ steaming busy .b0 = true ∧ (steamCredits 233 busy).get .b0 = 100 ∧
      steamLacking (busy.bsq.get .b0) = 100 ∧ (steamCredits 233 busy).get .b1 = 0 ∧
      steamThenSoak.index + 1 < steamThenSoak.stepCount) ∧
    (0 < (steamCredits 233 lacking).get .b0 ∧ (steamCredits 233 lacking).get .b0 < steamLacking (lacking.bsq.get .b0)) ∧
    ((withBoiler .heat).blc.state ≠ .ready ∧ (∀ b ∈ Bay.all, steaming fresh b = false)) := by decide +kernel

/-- The worked sequence of the manual, round 1: shares of 145, 58 and 29 mg, and the leftover to bay 3. -/
def steamers : State :=
  let bay (level target delivered : Nat) : Bsq := bayIn .running
    (some { contextOf [copyOf .steam level (some target)] with delivered := delivered }) HoldSet.empty
  { busy with
    bsq := ⟨bay 5 60 59600, bay 2 30 29960, bayIn .idle none HoldSet.empty, bay 1 40 12000⟩
    blc := { busy.blc with pointer := .b2 } }

theorem test_worked_credits : steamCredits 233 steamers = ⟨145, 40, 0, 30⟩ := by decide +kernel

theorem witness_SteamCreditsShareTheYieldByLevel :
    steaming steamers .b2 = false ∧ steaming steamers .b3 = true ∧
    (∀ b ∈ Bay.all, steaming steamers b = true → 1 ≤ steamLevel (steamers.bsq.get b)) ∧
    (∀ b ∈ Bay.all, steaming steamers b = true → 40 ≤ steamLacking (steamers.bsq.get b)) := by decide +kernel

/-- An output back in AUTO and one that is not, a fitted bay and an unfitted one, started DRY and STEAM steps. -/
theorem witness_ReadersTakeThePublication :
    BaysLaw busy ∧ (busy.fitted.get .b0 = true ∧ partly.fitted.get .b3 = false ∧
      (busy.alc.bays.get .b0).fan.awaiting = false ∧
      (after (.outputServiceAuto .supervisor false 0x30#8 0x00#8) serviced).alc.bays.b3.fan.awaiting = true ∧
      startedCopy (busy.bsq.get .b2) = none ∧ startedCopy (busy.bsq.get .b0) = some (copyOf .steam 5 (some 60)) ∧
      startedCopy (busy.bsq.get .b1) = some (copyOf .dry 6 (some 40)) ∧ busy.pae.grants.compressor = 0) :=
  ⟨busy_bays, by decide +kernel⟩

theorem witness_SwitchSampleFiltersByThreeAgreeing :
    (inPhase .sleep).moc.phase = .sleep ∧ switchFitted partly (.front .b3) = false ∧ busy.moc.phase ≠ .sleep ∧
    switchFitted busy .condFull = true ∧ (almost true).raw = true ∧ (almost true).run + 1 = 3 ∧
    (almost true).filtered ≠ true := by decide +kernel

/-- Every switch one sample short of a transition to a level, the boiler in a state that each transition moves. -/
def turning (level : Bool) (st : BoilerState) : State :=
  { withBoiler st with snu := { busy.snu with
      fronts := PerBay.fill (almost level), boilerWaterOk := almost level, boilerCutout := almost level
      freshLow := almost level, freshEmpty := almost level, condFull := almost level } }

theorem witness_SwitchTransitionsReachTheirConsumers :
    (∀ level st, BaysLaw (turning level st) ∧ (turning level st).moc.phase ≠ .sleep ∧
      (turning level st).blc.state = st) ∧
    (∀ level, ∀ sw ∈ allSwitches, switchFitted (turning level .fill) sw = true ∧
      (switchOf (turning level .fill).snu sw).filtered ≠ level ∧ (switchOf (turning level .fill).snu sw).raw = level ∧
      2 ≤ (switchOf (turning level .fill).snu sw).run) ∧
    startedCopy (busy.bsq.get .b0) = some (copyOf .steam 5 (some 60)) ∧ (copyOf .steam 5 (some 60)).openOk = false ∧
    startedCopy (busy.bsq.get .b3) = none ∧ busy.moc.pumpMode = .auto ∧ steamWanted (turning true .cold) = true ∧
    (turning true .cold).snu.boilerTemp.state = .valid ∧ (settled false).filtered = false ∧
    drying.pae.compressorOn = true ∧ busy.pae.compressorOn = false ∧ (busy.bsq.get .b1).holds.noPower = true ∧
    { copyOf .cool 5 none with openOk := true }.openOk = true := by
  refine ⟨fun level st => ⟨busy_bays, (show Phase.run ≠ Phase.sleep by decide), rfl⟩, by decide +kernel, by decide +kernel, rfl,
    by decide +kernel, rfl, by decide +kernel, rfl, rfl, rfl, rfl, rfl, rfl⟩

/-- Codes 100 and 820 are valid, 99 and 821 are not; the fourth and the fifth invalid sample, the second and the third
valid one. -/
theorem witness_AnalogSampleMovesItsChannel :
    (inPhase .sleep).moc.phase = .sleep ∧ channelFitted partly (.bayHumidity .b3) = false ∧ busy.moc.phase ≠ .sleep ∧
    channelFitted busy (.bayTemperature .b0) = true ∧ convert (.bayTemperature .b0) 100#10 = some 0 ∧
    convert (.bayTemperature .b0) 820#10 = some 90 ∧ convert (.bayTemperature .b0) 99#10 = none ∧
    convert (.bayTemperature .b0) 821#10 = none ∧ { validAt 40 with state := .stale, invalidRun := 4 }.invalidRun = 4 ∧
    (channelOf busy.snu (.bayTemperature .b0)).state = .valid ∧
    (channelOf fresh.snu (.bayTemperature .b0)).state = .unknown := by decide +kernel

/-- Bay channels about to fail, a COOL and a DRY step compared at their goal, a heater at its limit, a boiler at 150, 102
and 95 °C. -/
theorem witness_ConversionsReachTheirConsumers :
    let failing : Channel := { validAt 40 with state := .stale, invalidRun := 4 }
    let running (k : StepKind) : Bsq := bayIn .running (some (contextOf [copyOf k 6 (some 40)])) HoldSet.empty
    busy.moc.phase ≠ .sleep ∧ busy.fitted.get .b0 = true ∧ convert (.bayHumidity .b0) 0#10 = none ∧
    (failing.state = .unknown ∨ failing.state = .stale) ∧ 4 ≤ failing.invalidRun ∧
    inProgress (busy.bsq.get .b0) = true ∧ (busy.bsq.get .b2).state = .parking ∧
    runningCopy (running .cool) = some (copyOf .cool 6 (some 40)) ∧
    runningCopy (running .dry) = some (copyOf .dry 6 (some 40)) ∧ (copyOf .dry 6 (some 40)).goalGiven = true ∧
    (copyOf .dry 6 (some 40)).tempLimit = some 60 ∧ convert (.bayTemperature .b0) 420#10 = some 40 ∧
    convert (.bayTemperature .b0) 428#10 = some 41 ∧ convert (.bayTemperature .b0) 580#10 = some 60 ∧
    (contextOf [copyOf .dry 6 (some 40)]).satisfied = 2 ∧ convert .boilerTemperature 814#10 = some 150 ∧
    convert .boilerTemperature 574#10 = some 102 ∧ convert .boilerTemperature 543#10 = some 95 ∧
    busy.snu.boilerTemp.state = .valid ∧ convert .boilerTemperature 1000#10 = none ∧
    channelFitted busy (.bayTemperature .b0) = true ∧ convert (.bayTemperature .b0) 821#10 = none ∧
    (channelOf busy.snu (.bayTemperature .b0)).state = .valid ∧ { failing with invalidRun := 3 }.invalidRun < 4 ∧
    (copyOf .cool 6 (some 40)).target.isSome = true ∧ (copyOf .cool 6 none).goalGiven = false ∧
    runningCopy (busy.bsq.get .b2) = none := by decide +kernel

theorem witness_ProfileWriteReplacesItsSlot : Awake busy ∧ (0x0F#8).toNat ≤ 15 ∧ (0x02#8) ≠ 0x00#8 ∧ (0x02#8) ≠ 0x01#8 :=
  ⟨busy_awake, by decide⟩

theorem witness_CommitGoesThroughItsPhases :
    Awake busy ∧ (busy.pts.phase = .idle ∧ { busy.pts with phase := .erasing }.phase ≠ .idle ∧
      { busy.pts with phase := .checking, reErased := true }.reErased = true ∧
      { busy.pts with phase := .verifying, rewritten := false }.rewritten = false) := ⟨busy_awake, by decide +kernel⟩

end Sys2Proof.Tests
end

section
/-! What a response and a posted outcome leave of the state, and how a bay panel's request on its own bay reaches its
owner. -/

namespace Sys2Proof.Machine

/-! ### Forming the response (R178) -/

@[simp] theorem respond_pli (m : Master) (kind : Byte) (noise : Bool) (y : Reply) (s : State) :
    (respond m kind noise y s).pli = { s.pli with tx := some ⟨m, kind, y.status, noise, y.payload⟩ } := rfl

/-! ### Posting an outcome (R145) -/

/-- Posting into an empty ring raises OUTCOME_READY. -/
theorem postOutcome_of_empty {b : Bay} {s : State} (role : PostRole) (rec : Outcome) (h : (s.oau.get b).records = []) :
    postOutcome b role rec s =
      raisePanel b .outcomeReady (setOutcomes b ((postOutcome b role rec s).oau.get b) s) := by
  rw [postOutcome_ring]
  simp [postOutcome, h]

/-- Posting into a ring that holds a record changes that ring alone. -/
theorem postOutcome_of_nonempty {b : Bay} {s : State} (role : PostRole) (rec : Outcome)
    (h : (s.oau.get b).records ≠ []) :
    postOutcome b role rec s = setOutcomes b ((postOutcome b role rec s).oau.get b) s := by
  rw [postOutcome_ring]
  simp [postOutcome, h]

theorem postOutcome_pae (b : Bay) (role : PostRole) (rec : Outcome) (s : State) :
    (postOutcome b role rec s).pae = s.pae := by
  unfold postOutcome
  dsimp only
  split <;> simp

theorem postOutcome_blc (b : Bay) (role : PostRole) (rec : Outcome) (s : State) :
    (postOutcome b role rec s).blc = s.blc := by
  unfold postOutcome
  dsimp only
  split <;> simp

theorem postOutcome_alc (b : Bay) (role : PostRole) (rec : Outcome) (s : State) :
    (postOutcome b role rec s).alc = s.alc := by
  unfold postOutcome
  dsimp only
  split <;> simp

/-- A raised event joins the pending set of a fitted bay's panel (R149). -/
theorem raisePanel_pendingSet {b : Bay} {s : State} (e : PanelEvent) (hf : s.fitted.get b = true) :
    ((raisePanel b e s).panels.get b).pending = (s.panels.get b).pending ||| panelBit e := by
  simp [raisePanel, hf, raiseBits, redriveLine]

/-! ### A bay panel's request on its own bay -/

@[simp] theorem bayOf_bayByte (b : Bay) : bayOf (bayByte b) = some b := by cases b <;> rfl

/-- A bay master's request on its own fitted bay passes the bay checks (R175, checks 1, 6 and 7). -/
theorem passes_of_own_bay {b : Bay} {r : Request} {s : State} (hf : s.fitted.get b = true)
    (hent : entitled (.panel b) (reqKind r) = true) (hlen : lengthOk r = true) (hidx : indexOk r = true)
    (hbay : bayNamed r = some b) : Passes (.panel b) r s where
  master := hf
  entitled := hent
  length := hlen
  index := hidx
  bay c hc := by
    obtain rfl : b = c := by simpa [hbay] using hc
    exact ⟨hf, by simp [ownBay]⟩

/-- The panel of a fitted bay appends a batch of one to four records: the ring's owner answers (R24, R175). -/
theorem exec_stepAppend_panel {b : Bay} {s : State} {records : List StepRecord} (noise : Bool) (expected : Byte)
    (hA : Awake s) (hf : s.fitted.get b = true) (h1 : 1 ≤ records.length) (h4 : records.length ≤ 4) :
    exec (.stepAppend (.panel b) noise (bayByte b) expected records) s =
      .next (respond (.panel b) 0x07#8 noise (ownerStepAppend b expected records (heard (.panel b) s)).2
        (ownerStepAppend b expected records (heard (.panel b) s)).1) := by
  have hp : Passes (.panel b) (.stepAppend (bayByte b) expected records) s :=
    passes_of_own_bay hf rfl (by simp [lengthOk, batchOk, h1, h4]) (by simp [indexOk]) (by simp [bayNamed])
  change Host.Outcome.next (takeRequest _ noise _ s) = _
  rw [takeRequest_passes noise hA hp]
  simp [perform, forBay, reqKind, reqCode]

/-- The panel of a fitted bay cancels its queue: the ring's owner answers (R30, R175). -/
theorem exec_queueCancel_panel {b : Bay} {s : State} (noise : Bool) (hA : Awake s) (hf : s.fitted.get b = true) :
    exec (.queueCancel (.panel b) noise (bayByte b)) s =
      .next (respond (.panel b) 0x08#8 noise (ownerQueueCancel b (heard (.panel b) s)).2
        (ownerQueueCancel b (heard (.panel b) s)).1) := by
  have hp : Passes (.panel b) (.queueCancel (bayByte b)) s :=
    passes_of_own_bay hf rfl rfl (by simp [indexOk]) (by simp [bayNamed])
  change Host.Outcome.next (takeRequest _ noise _ s) = _
  rw [takeRequest_passes noise hA hp]
  simp [perform, forBay, reqKind, reqCode]

end Sys2Proof.Machine
end

section
/-! The open-program length along a batch (R26). -/

namespace Sys2Proof.Machine

/-- One record: refused past eight steps, and PROGRAM_END returns the length to 0. -/
theorem openAfter_cons (n : Nat) (x : StepRecord) (rest : List StepRecord) :
    openAfter n (x :: rest) = if n + 1 ≤ 8 then openAfter (if isEnd x then 0 else n + 1) rest else none := by
  rw [openAfter, programSteps, ← ite_not]
  simp only [Nat.not_lt]

theorem openAfter_le {records : List StepRecord} {n k : Nat} (hn : n ≤ 8) (h : openAfter n records = some k) :
    k ≤ 8 := by
  induction records generalizing n with
  | nil =>
    cases h
    exact hn
  | cons x rest ih =>
    rw [openAfter_cons] at h
    split at h
    next hlt =>
      refine ih ?_ h
      split
      · exact Nat.zero_le 8
      · exact hlt
    next => cases h

/-- Records without PROGRAM_END add their number to the length, and pass while it does not exceed eight. -/
theorem openAfter_append_open {front : List StepRecord} {n : Nat} (rest : List StepRecord) (hn : n ≤ 8)
    (h : ∀ x ∈ front, isEnd x = false) :
    openAfter n (front ++ rest) = if n + front.length ≤ 8 then openAfter (n + front.length) rest else none := by
  induction front generalizing n with
  | nil => simp [hn]
  | cons x front ih =>
    have hx : isEnd x = false := h x (by simp)
    have hfront : ∀ y ∈ front, isEnd y = false := fun y hy => h y (by simp [hy])
    rw [List.cons_append, openAfter_cons, hx]
    by_cases hlt : n + 1 ≤ 8
    · simp [hlt, ih hlt hfront, Nat.add_assoc, Nat.add_comm 1]
    · rw [if_neg hlt, if_neg (by simp only [List.length_cons]; omega)]

/-- Settles O32, by the two rules of R26: records that leave the program open, and the record that closes it. -/
theorem openLengthFollowsTheBatch : Obligations.OpenLengthFollowsTheBatch := by
  intro n records hn
  refine ⟨fun k => openAfter_le hn, fun hopen => ?_, fun front x rest hsplit hopen hend => ?_⟩
  · simpa [openAfter] using openAfter_append_open [] hn hopen
  · rw [hsplit, openAfter_append_open (x :: rest) hn hopen, openAfter_cons, hend]
    by_cases hlt : n + front.length + 1 ≤ 8
    · have hle : n + front.length ≤ 8 := by omega
      simp [hlt, hle]
    · simp [hlt]

end Sys2Proof.Machine
end

section
/-! STEP_APPEND's checks, one equation for each way it can end (R24 to R27). -/

namespace Sys2Proof.Machine

/-- The state with a batch written at the tail of a ring whose open-program length becomes `n` (R27). -/
def withBatch (b : Bay) (records : List StepRecord) (n : Nat) (s : State) : State :=
  setRing b
    { s.srs.get b with
      records := (s.srs.get b).records ++ records
      p := (s.srs.get b).p + BitVec.ofNat 8 records.length
      openLength := n } s

section
variable {b : Bay} {records : List StepRecord} {s : State}

theorem ownerStepAppend_position {expected : Byte} (h : expected ≠ (s.srs.get b).p) :
    ownerStepAppend b expected records s = (s, nakWith .position [(s.srs.get b).p]) := by
  simp [ownerStepAppend, h]

theorem ownerStepAppend_valueBad (h : ∃ x ∈ records, 15 < x.profile.toNat) :
    ownerStepAppend b (s.srs.get b).p records s = (s, nakWith .valueBad []) := by
  simp [ownerStepAppend, h]

theorem any_profile_out_of_range_eq_false (h : ∀ x ∈ records, x.profile.toNat ≤ 15) :
    (records.any fun x => decide (15 < x.profile.toNat)) = false := by
  simpa using h

theorem ownerStepAppend_ringFull (h : ∀ x ∈ records, x.profile.toNat ≤ 15)
    (hfull : 16 < (s.srs.get b).records.length + records.length) :
    ownerStepAppend b (s.srs.get b).p records s = (s, nakWith .ringFull []) := by
  simp [ownerStepAppend, ringPlaces, any_profile_out_of_range_eq_false h, hfull]

theorem ownerStepAppend_tooLong (h : ∀ x ∈ records, x.profile.toNat ≤ 15)
    (hroom : (s.srs.get b).records.length + records.length ≤ 16)
    (hlong : openAfter (s.srs.get b).openLength records = none) :
    ownerStepAppend b (s.srs.get b).p records s = (s, nakWith .tooLong []) := by
  simp [ownerStepAppend, ringPlaces, any_profile_out_of_range_eq_false h, Nat.not_lt.mpr hroom, hlong]

theorem ownerStepAppend_written {n : Nat} (h : ∀ x ∈ records, x.profile.toNat ≤ 15)
    (hroom : (s.srs.get b).records.length + records.length ≤ 16)
    (hlen : openAfter (s.srs.get b).openLength records = some n) :
    ownerStepAppend b (s.srs.get b).p records s =
      (if records.any isEnd then examineAdmission b (withBatch b records n s) else withBatch b records n s,
        ackWith [(s.srs.get b).p + BitVec.ofNat 8 records.length]) := by
  simp [ownerStepAppend, ringPlaces, any_profile_out_of_range_eq_false h, Nat.not_lt.mpr hroom, hlen, withBatch]

end

/-- Admission is examined in vain while the bay is not IDLE (R33). -/
theorem examineAdmission_of_not_idle {b : Bay} {s : State} (h : (s.bsq.get b).state ≠ .idle) :
    examineAdmission b s = s :=
  examineAdmission_none b s (by simp [admissible, h])

/-- Settles O31, one equation of the owner for each way the request can end. -/
theorem stepAppendChecksInOrderThenWrites : Obligations.StepAppendChecksInOrderThenWrites := by
  intro b noise expected records s hA hf h1 h4
  have hgot := exec_stepAppend_panel noise expected hA hf h1 h4
  refine ⟨fun hne => ?_, ?_⟩
  · rw [hgot, ownerStepAppend_position hne]
    rfl
  rintro rfl
  refine ⟨fun hbad => ?_, fun hvals => ⟨fun hfull => ?_, fun hroom => ⟨fun hlong => ?_, fun n hlen => ⟨?_, ?_⟩⟩⟩⟩
  · rw [hgot, ownerStepAppend_valueBad hbad]
    rfl
  · rw [hgot, ownerStepAppend_ringFull hvals hfull]
    rfl
  · rw [hgot, ownerStepAppend_tooLong hvals hroom hlong]
    rfl
  · intro hquiet
    rw [hgot, ownerStepAppend_written hvals hroom hlen]
    rcases hquiet with hopen | hbusy
    · have hany : ¬ records.any isEnd = true := by simpa using hopen
      rw [if_neg hany]
      rfl
    · rw [examineAdmission_of_not_idle (by simpa [withBatch] using hbusy), ite_self]
      rfl
  · intro hend
    rw [hgot, ownerStepAppend_written hvals hroom hlen, if_pos (by simpa using hend)]
    rfl

end Sys2Proof.Machine
end

section
/-! QUEUE_CANCEL, one equation for each way it can end (R30, R31). -/

namespace Sys2Proof.Machine

/-- The state with everything behind the admitted part of a ring removed (R30). -/
def withoutBehind (b : Bay) (s : State) : State :=
  setRing b
    { s.srs.get b with
      records := (s.srs.get b).records.take (s.srs.get b).admitted
      p := (s.srs.get b).c + BitVec.ofNat 8 (s.srs.get b).admitted
      openLength := 0 } s

section
variable {b : Bay} {s : State}

theorem ownerQueueCancel_nothing (h : (s.srs.get b).records.drop (s.srs.get b).admitted = []) :
    ownerQueueCancel b s = (s, ackWith [(s.srs.get b).p]) := by
  simp only [ownerQueueCancel, h, List.isEmpty_nil, if_true]

theorem ownerQueueCancel_outcomeFull (h : (s.srs.get b).records.drop (s.srs.get b).admitted ≠ [])
    (hfull : freeEntries (s.oau.get b) = 0) : ownerQueueCancel b s = (s, nakWith .outcomeFull []) := by
  simp only [ownerQueueCancel, List.isEmpty_eq_false_iff.mpr h, Bool.false_eq_true, if_false, hfull, if_true]

theorem ownerQueueCancel_removes (h : (s.srs.get b).records.drop (s.srs.get b).admitted ≠ [])
    (hfree : 1 ≤ freeEntries (s.oau.get b)) :
    ownerQueueCancel b s =
      (postOutcome b .other (cancelOutcome b ((s.srs.get b).records.drop (s.srs.get b).admitted) s) (withoutBehind b s),
        ackWith [(s.srs.get b).c + BitVec.ofNat 8 (s.srs.get b).admitted]) := by
  simp only [ownerQueueCancel, List.isEmpty_eq_false_iff.mpr h, Bool.false_eq_true, if_false,
    Nat.ne_of_gt hfree]
  rfl

end

/-- Settles O33: the removal is a shorter ring and one posted outcome, whose frame lemmas give the rest of the state. -/
theorem queueCancelRemovesWhatIsBehind : Obligations.QueueCancelRemovesWhatIsBehind := by
  intro b noise s hA hf
  have hgot := exec_queueCancel_panel (b := b) noise hA hf
  have hfit : (heard (.panel b) s).fitted.get b = true := by rw [heard_fitted]; exact hf
  generalize heard (.panel b) s = u at hgot hfit ⊢
  refine ⟨fun hnone => ?_, fun hsome hfull => ?_, fun first rest hbehind hfree => ?_⟩
  · rw [hgot, ownerQueueCancel_nothing hnone]
    rfl
  · rw [hgot, ownerQueueCancel_outcomeFull hsome hfull]
    rfl
  have hsome : (u.srs.get b).records.drop (u.srs.get b).admitted ≠ [] := by rw [hbehind]; exact List.cons_ne_nil _ _
  rw [ownerQueueCancel_removes hsome hfree] at hgot
  have hframe : BayFrame b u (withoutBehind b u) := setRing_frame b _ u
  have hpost := postOutcome_frame b .other
    (cancelOutcome b ((u.srs.get b).records.drop (u.srs.get b).admitted) u) (withoutBehind b u)
  have hall := hframe.trans hpost
  refine ⟨_, hgot, ?tx, ?ring, ?outcomes, ?ready, ?noEvent, ?others, ?bsq, ?pae, ?blc, ?alc, hall.snu, hall.pts,
    hall.moc⟩
  case tx => rw [respond_pli, hall.pli]; rfl
  case ring => rw [respond_srs, postOutcome_srs]; simp [withoutBehind]
  case outcomes =>
    rw [respond_oau, postOutcome_ring]
    simp [withoutBehind, cancelOutcome, hbehind]
  case ready =>
    intro hempty
    rw [respond_panels, postOutcome_of_empty _ _ (by simpa [withoutBehind] using hempty),
      raisePanel_pendingSet _ (by simpa [withoutBehind] using hfit)]
    rfl
  case noEvent =>
    intro hheld
    rw [respond_panels, postOutcome_of_nonempty _ _ (by simpa [withoutBehind] using hheld)]
    rfl
  case others => exact fun c hc => ⟨hall.srs c hc, hall.oau c hc⟩
  case bsq => rw [respond_bsq, postOutcome_bsq]; rfl
  case pae => rw [respond_pae, postOutcome_pae]; rfl
  case blc => rw [respond_blc, postOutcome_blc]; rfl
  case alc => rw [respond_alc, postOutcome_alc]; rfl

end Sys2Proof.Machine
end

section
/-! BAY_CLEAR, one equation for each way it can end (R65). -/

namespace Sys2Proof.Machine

/-- The supervisor becoming PRESENT leaves the bay sequencers as they are: only E may follow (R174). -/
theorem heard_supervisor_bsq (s : State) : (heard .supervisor s).bsq = s.bsq := by
  unfold heard becomePresent
  dsimp only
  split <;> rfl

theorem bothValid_iff (b : Bay) (s : State) :
    bothValid b s = true ↔ (s.snu.temps.get b).state = .valid ∧ (s.snu.hums.get b).state = .valid := by
  simp [bothValid]

/-- A request of the supervisor on a fitted bay passes the bay checks (R175, checks 1, 6 and 7). -/
theorem passes_of_supervisor_bay {b : Bay} {r : Request} {s : State} (hf : s.fitted.get b = true)
    (hent : entitled .supervisor (reqKind r) = true) (hlen : lengthOk r = true) (hidx : indexOk r = true)
    (hbay : bayNamed r = some b) : Passes .supervisor r s where
  master := rfl
  entitled := hent
  length := hlen
  index := hidx
  bay c hc := by
    obtain rfl : b = c := by simpa [hbay] using hc
    exact ⟨hf, rfl⟩

/-- The supervisor clears a fitted bay: the bay's sequencer answers (R65, R175). -/
theorem exec_bayClear_supervisor {b : Bay} {s : State} (noise : Bool) (hA : Awake s) (hf : s.fitted.get b = true) :
    exec (.bayClear .supervisor noise (bayByte b)) s =
      .next (respond .supervisor 0x15#8 noise (ownerBayClear b (heard .supervisor s)).2
        (ownerBayClear b (heard .supervisor s)).1) := by
  have hp : Passes .supervisor (.bayClear (bayByte b)) s :=
    passes_of_supervisor_bay hf rfl rfl (by simp [indexOk]) (by simp [bayNamed])
  change Host.Outcome.next (takeRequest _ noise _ s) = _
  rw [takeRequest_passes noise hA hp]
  simp [perform, forBay, reqKind, reqCode]

/-- The state with a bay returned to IDLE, its outputs driven for IDLE, and admission examined (R34, R65). -/
def bayCleared (b : Bay) (s : State) : State :=
  examineAdmission b (driveBay b (raisePanel b .stateChange (setBsq b { s.bsq.get b with state := .idle } s)))

theorem ownerBayClear_clears {b : Bay} {s : State} (hfaulted : (s.bsq.get b).state = .faulted)
    (hvalid : bothValid b s = true) :
    ownerBayClear b s = (bayCleared b s, ackWith [bayStateCode ((bayCleared b s).bsq.get b).state]) :=
  if_pos ⟨hfaulted, hvalid⟩

theorem ownerBayClear_refuses {b : Bay} {s : State}
    (h : (s.bsq.get b).state ≠ .faulted ∨ ¬ bothValid b s = true) :
    ownerBayClear b s = (s, nakWith .badState [bayStateCode (s.bsq.get b).state]) :=
  if_neg (not_and_or.mpr h)

/-- Settles O38: hearing the supervisor changes neither the bay's state nor its channels, so the owner decides by those
of the state before the request. -/
theorem bayClearNeedsFaultedAndValid : Obligations.BayClearNeedsFaultedAndValid := by
  intro b noise s hA hf
  have hgot := exec_bayClear_supervisor noise hA hf
  have hbsq := heard_supervisor_bsq s
  have hboth := bothValid_iff b (heard .supervisor s)
  rw [heard_snu] at hboth
  refine ⟨fun hfaulted hvalid => ?clears, fun hrefused => ?refuses⟩
  case clears =>
    rw [hgot, ownerBayClear_clears (by rw [hbsq]; exact hfaulted) (hboth.mpr hvalid), bayCleared, hbsq]
    rfl
  case refuses =>
    rw [hgot, ownerBayClear_refuses (by rw [hbsq, hboth]; exact hrefused), hbsq]
    rfl

end Sys2Proof.Machine
end

section
/-! The compressor decision of an allotment round: when the compressor is requested, which row decides, and what the
round carries out (R80 to R83). -/

namespace Sys2Proof

theorem PerBay.any_toList_iff {α : Type} (f : α → Bool) (p : PerBay α) :
    p.toList.any f = true ↔ ∃ b, f (p.get b) = true := by
  simp only [List.any_eq_true]
  constructor
  · rintro ⟨a, ha, hf⟩
    obtain ⟨b, rfl⟩ : ∃ b, p.get b = a := by
      simp only [PerBay.toList, List.mem_cons, List.not_mem_nil, or_false] at ha
      obtain rfl | rfl | rfl | rfl := ha
      exacts [⟨.b0, rfl⟩, ⟨.b1, rfl⟩, ⟨.b2, rfl⟩, ⟨.b3, rfl⟩]
    exact ⟨b, hf⟩
  · rintro ⟨b, hf⟩
    exact ⟨p.get b, by cases b <;> simp [PerBay.toList, PerBay.get], hf⟩

end Sys2Proof

namespace Sys2Proof.Machine

/-! ### The request for the compressor (R81) -/

theorem copyIs_iff (k : StepKind) (c : Option StepCopy) : copyIs k c = true ↔ ∃ x, c = some x ∧ x.kind = k := by
  cases c <;> simp [copyIs]

theorem onlyNoPower_iff (h : HoldSet) : onlyNoPower h = true ↔ { h with noPower := false } = HoldSet.empty := by
  simp [onlyNoPower, HoldSet.empty, and_assoc]

theorem requestsCompressor_iff (q : Bsq) :
    requestsCompressor q = true ↔
      ∃ c, startedCopy q = some c ∧ c.kind = .dry ∧ { q.holds with noPower := false } = HoldSet.empty := by
  rw [requestsCompressor, Bool.and_eq_true, copyIs_iff, onlyNoPower_iff]
  simp only [← and_assoc, exists_and_right]

theorem compressorRequested_iff (s : State) :
    compressorRequested s = true ↔
      ∃ b c, startedCopy (s.bsq.get b) = some c ∧ c.kind = .dry ∧
        { (s.bsq.get b).holds with noPower := false } = HoldSet.empty := by
  simp only [compressorRequested, PerBay.any_toList_iff, requestsCompressor_iff]

/-! ### Which row decides (R82, R83) -/

section
variable {r1 : Nat} {s : State}

/-- The two rows of R82 that leave an ON compressor ON, read as one condition. -/
theorem decideCompressor_on (hon : s.pae.compressorOn = true) :
    decideCompressor r1 s =
      if r1 < 600 then .shed
      else if compressorRequested s = true ∨ s.pae.minOn < 60000 then .stayOn else .turnOff := by
  rw [decideCompressor, if_pos hon, ite_or]
  rfl

theorem decideCompressor_off (hoff : s.pae.compressorOn = false) :
    decideCompressor r1 s =
      if compressorRequested s = true ∧ 120000 ≤ s.pae.minOff ∧ s.snu.condFull.filtered = false ∧
        s.moc.phase = .run ∧ 600 ≤ r1 then .turnOn else .stayOff := by
  rw [decideCompressor, hoff]
  rfl

end

/-! ### What the round carries out (R72, R80, R92) -/

/-- The state after a round that decides `d` of the compressor. -/
def roundWith (d : CompressorDecision) (s : State) : State :=
  { applyDecision d s with
    pae := { (applyDecision d s).pae with roundTimer := 0, grants := roundTable d s }
    untaken := { blc := true, alc := true, bsq := PerBay.fill true } }

theorem allotmentRound_of_decision {d : CompressorDecision} {s : State}
    (h : decideCompressor (s.pae.effective - 40 - classZero s) s = d) : allotmentRound s = roundWith d s := by
  subst h
  rfl

/-- In RUN and STANDBY the command is a round (R72). -/
theorem exec_allotmentRound_awake {s : State} (hA : Awake s) : exec .allotmentRound s = .next (allotmentRound s) := by
  have hrun : roundsRun s = true := by simpa [roundsRun, Awake] using hA
  change Host.Outcome.next (if roundsRun s then allotmentRound s else s) = _
  rw [if_pos hrun]

/-- Settles O44: the row that applies gives the decision, and the decision gives the state after the round. -/
theorem roundDecidesTheCompressor : Obligations.RoundDecidesTheCompressor := by
  intro s hA
  simp only [← compressorRequested_iff]
  refine ⟨allotmentRound s, exec_allotmentRound_awake hA, fun hon => ⟨?shed, ?stayOn, ?turnOff⟩,
    fun hoff => ⟨?turnOn, ?stayOff⟩⟩
  case shed =>
    intro hshort
    rw [allotmentRound_of_decision ((decideCompressor_on hon).trans (if_pos hshort))]
    exact ⟨⟨rfl, rfl, rfl, rfl⟩, rfl, rfl⟩
  case stayOn =>
    intro hpower hstay
    rw [allotmentRound_of_decision
      ((decideCompressor_on hon).trans ((if_neg (Nat.not_lt.mpr hpower)).trans (if_pos hstay)))]
    exact ⟨hon, rfl, rfl, rfl, rfl, rfl⟩
  case turnOff =>
    intro hpower hreq hmin
    have hleave : ¬ (compressorRequested s = true ∨ s.pae.minOn < 60000) :=
      not_or.mpr ⟨hreq, Nat.not_lt.mpr hmin⟩
    rw [allotmentRound_of_decision
      ((decideCompressor_on hon).trans ((if_neg (Nat.not_lt.mpr hpower)).trans (if_neg hleave)))]
    exact ⟨⟨rfl, rfl, rfl, rfl⟩, rfl, rfl⟩
  case turnOn =>
    intro hstarts
    rw [allotmentRound_of_decision ((decideCompressor_off hoff).trans (if_pos hstarts))]
    exact ⟨rfl, rfl, rfl, rfl, rfl, rfl⟩
  case stayOff =>
    intro hstays
    rw [allotmentRound_of_decision ((decideCompressor_off hoff).trans (if_neg hstays))]
    exact ⟨hoff, rfl, rfl, rfl, rfl, rfl⟩

end Sys2Proof.Machine
end

section
/-! The sum over the bays, term by term: what a comparison, a sum and a multiple of the terms make of it. -/

namespace Sys2Proof.PerBay

theorem sum_ofFn_add (f g : Bay → Nat) : (ofFn fun b => f b + g b).sum = (ofFn f).sum + (ofFn g).sum := by
  simp only [sum, ofFn]
  omega

theorem sum_ofFn_mul (k : Nat) (f : Bay → Nat) : (ofFn fun b => k * f b).sum = k * (ofFn f).sum := by
  simp only [sum, ofFn, Nat.mul_add]

theorem sum_ofFn_mono {f g : Bay → Nat} (h : ∀ b, f b ≤ g b) : (ofFn f).sum ≤ (ofFn g).sum :=
  Nat.add_le_add (Nat.add_le_add (Nat.add_le_add (h .b0) (h .b1)) (h .b2)) (h .b3)

theorem le_sum_ofFn (f : Bay → Nat) (b : Bay) : f b ≤ (ofFn f).sum := by
  cases b <;> simp only [sum, ofFn] <;> omega

/-- One for each bay of a list without repetition adds up to the list's length. -/
theorem sum_ofFn_mem {l : List Bay} (h : l.Nodup) : (ofFn fun b => if b ∈ l then 1 else 0).sum = l.length := by
  induction l with
  | nil => rfl
  | cons a l ih =>
    obtain ⟨ha, hl⟩ := List.nodup_cons.mp h
    have hsplit : ∀ b, (if b ∈ a :: l then 1 else 0) = (if b = a then 1 else 0) + (if b ∈ l then 1 else 0) := by
      intro b
      by_cases hb : b = a
      · simp [hb, ha]
      · simp [hb]
    have hone : (ofFn fun b => if b = a then 1 else 0).sum = 1 := by cases a <;> rfl
    simp only [hsplit]
    rw [sum_ofFn_add, hone, ih hl, List.length_cons, Nat.add_comm]

end Sys2Proof.PerBay
end

section
/-! The credits of a yield (R112 to R114): the shares by level, the leftover, and the bays that take a milligram of it. -/

namespace Sys2Proof.Machine

/-- What the shares by level leave of a yield (R113). -/
def leftover (y : Nat) (s : State) : Nat := y - (steamShares y s).sum

/-- The steaming bays from the pointer on, wrapping (R113). -/
def steamOrder (s : State) : List Bay := (baysFrom s.blc.pointer).filter (steaming s)

/-- A bay's part of a yield before its step's target limits it: the share, and its milligram of the leftover. -/
def steamPart (y : Nat) (s : State) (b : Bay) : Nat :=
  (steamShares y s).get b + if b ∈ (steamOrder s).take (leftover y s) then 1 else 0

theorem steamCredits_of_steaming {s : State} {b : Bay} (y : Nat) (h : steaming s b = true) :
    (steamCredits y s).get b = min (steamPart y s b) (steamLacking (s.bsq.get b)) := by
  by_cases hb : b ∈ (steamOrder s).take (leftover y s)
  · have hextra : b ∈ extraBays s (y - (steamShares y s).sum) (baysFrom s.blc.pointer) := hb
    simp [steamCredits, steamPart, h, hb, hextra]
  · have hextra : b ∉ extraBays s (y - (steamShares y s).sum) (baysFrom s.blc.pointer) := hb
    simp [steamCredits, steamPart, h, hb, hextra]

theorem steamCredits_of_not_steaming {s : State} {b : Bay} (y : Nat) (h : steaming s b = false) :
    (steamCredits y s).get b = 0 := by
  simp [steamCredits, h]

theorem steamLevel_of_not_steaming {s : State} {b : Bay} (h : steaming s b = false) :
    steamLevel (s.bsq.get b) = 0 := by
  unfold steamLevel
  split
  next c hc => rw [if_neg (by simpa [steaming, copyIs, hc] using h)]
  next => rfl

theorem mem_steamOrder {s : State} {b : Bay} : b ∈ steamOrder s ↔ steaming s b = true := by
  have hall : ∀ p c : Bay, c ∈ baysFrom p := by intro p c; cases p <;> cases c <;> decide
  simp [steamOrder, hall]

theorem steamOrder_nodup (s : State) : (steamOrder s).Nodup := by
  have hall : ∀ p : Bay, (baysFrom p).Nodup := by intro p; cases p <;> decide
  exact (hall _).filter _

/-- The shares are rounded down, so they never exceed the yield (R112). -/
theorem steamShares_sum_le (y : Nat) (s : State) : (steamShares y s).sum ≤ y := by
  rcases Nat.eq_zero_or_pos (steamLevels s) with hzero | hpos
  · simp [steamShares, hzero, PerBay.sum, PerBay.ofFn]
  · refine Nat.le_of_mul_le_mul_left ?_ hpos
    calc steamLevels s * (steamShares y s).sum
        = (PerBay.ofFn fun b => steamLevels s * (y * steamLevel (s.bsq.get b) / steamLevels s)).sum :=
          (PerBay.sum_ofFn_mul _ _).symm
      _ ≤ (PerBay.ofFn fun b => y * steamLevel (s.bsq.get b)).sum :=
          PerBay.sum_ofFn_mono fun b => Nat.mul_div_le _ _
      _ = y * steamLevels s := PerBay.sum_ofFn_mul _ _
      _ = steamLevels s * y := Nat.mul_comm _ _

/-- One for a steaming bay, to count these bays by a sum. -/
def oneIfSteaming (s : State) (b : Bay) : Nat := if b ∈ steamOrder s then 1 else 0

theorem sum_oneIfSteaming (s : State) : (PerBay.ofFn (oneIfSteaming s)).sum = (steamOrder s).length :=
  PerBay.sum_ofFn_mem (steamOrder_nodup s)

/-- The rounding of a steaming bay's share loses less than one milligram (R112). -/
theorem level_le_share_rounded_up {s : State} {b : Bay} (y : Nat) (hpos : 0 < steamLevels s) :
    y * steamLevel (s.bsq.get b) + oneIfSteaming s b ≤
      steamLevels s * ((steamShares y s).get b + oneIfSteaming s b) := by
  cases hb : steaming s b with
  | true =>
    rw [oneIfSteaming, if_pos (mem_steamOrder.mpr hb), steamShares, PerBay.get_ofFn]
    exact Nat.lt_mul_div_succ _ hpos
  | false => simp [oneIfSteaming, mem_steamOrder, hb, steamLevel_of_not_steaming hb]

/-- So fewer milligrams are left over than there are steaming bays (R113). -/
theorem leftover_lt_length {s : State} (y : Nat) (hsome : ∃ b, steaming s b = true)
    (hlevel : ∀ b, steaming s b = true → 1 ≤ steamLevel (s.bsq.get b)) :
    leftover y s < (steamOrder s).length := by
  obtain ⟨c, hc⟩ := hsome
  have hpos : 0 < steamLevels s :=
    Nat.lt_of_lt_of_le (hlevel c hc) (PerBay.le_sum_ofFn (fun b => steamLevel (s.bsq.get b)) c)
  have hsteam : 0 < (steamOrder s).length := List.length_pos_of_mem (mem_steamOrder.mpr hc)
  have hall : steamLevels s * y < steamLevels s * ((steamShares y s).sum + (steamOrder s).length) :=
    calc steamLevels s * y
        < y * steamLevels s + (steamOrder s).length := by rw [Nat.mul_comm]; exact Nat.lt_add_of_pos_right hsteam
      _ = (PerBay.ofFn fun b => y * steamLevel (s.bsq.get b) + oneIfSteaming s b).sum := by
          rw [PerBay.sum_ofFn_add, PerBay.sum_ofFn_mul, sum_oneIfSteaming]
          rfl
      _ ≤ (PerBay.ofFn fun b => steamLevels s * ((steamShares y s).get b + oneIfSteaming s b)).sum :=
          PerBay.sum_ofFn_mono fun b => level_le_share_rounded_up y hpos
      _ = steamLevels s * ((steamShares y s).sum + (steamOrder s).length) := by
          rw [PerBay.sum_ofFn_mul, PerBay.sum_ofFn_add, sum_oneIfSteaming]
          rfl
  have hlt := Nat.lt_of_mul_lt_mul_left hall
  have hle := steamShares_sum_le y s
  unfold leftover
  omega

/-- The parts are the shares and one milligram for each bay that takes of the leftover. -/
theorem sum_steamPart (y : Nat) (s : State) :
    (PerBay.ofFn (steamPart y s)).sum = (steamShares y s).sum + min (leftover y s) (steamOrder s).length := by
  have htaken : ((steamOrder s).take (leftover y s)).Nodup := (steamOrder_nodup s).take
  calc (PerBay.ofFn (steamPart y s)).sum
      = (PerBay.ofFn (steamShares y s).get).sum +
          (PerBay.ofFn fun b => if b ∈ (steamOrder s).take (leftover y s) then 1 else 0).sum :=
        PerBay.sum_ofFn_add _ _
    _ = _ := by rw [PerBay.sum_ofFn_mem htaken, List.length_take]; rfl

theorem sum_steamPart_le (y : Nat) (s : State) : (PerBay.ofFn (steamPart y s)).sum ≤ y := by
  have hle := steamShares_sum_le y s
  rw [sum_steamPart, leftover]
  omega

/-- A bay that does not steam has no part. -/
theorem steamPart_of_not_steaming {s : State} {b : Bay} (y : Nat) (h : steaming s b = false) :
    steamPart y s b = 0 := by
  have hb : b ∉ (steamOrder s).take (leftover y s) := fun hmem => by
    simpa [h] using mem_steamOrder.mp (List.mem_of_mem_take hmem)
  simp [steamPart, hb, steamShares, steamLevel_of_not_steaming h]

/-- A credit is at most the bay's part (R114). -/
theorem steamCredits_le_part (y : Nat) (s : State) (b : Bay) : (steamCredits y s).get b ≤ steamPart y s b := by
  cases hb : steaming s b with
  | true => rw [steamCredits_of_steaming y hb]; exact Nat.min_le_left _ _
  | false => rw [steamCredits_of_not_steaming y hb]; exact Nat.zero_le _

/-- Where no step lacks less than the yield, no part is cut (R114). -/
theorem steamCredits_eq_part {y : Nat} {s : State}
    (h : ∀ b, steaming s b = true → y ≤ steamLacking (s.bsq.get b)) (b : Bay) :
    (steamCredits y s).get b = steamPart y s b := by
  cases hb : steaming s b with
  | true =>
    have hpart : steamPart y s b ≤ y := (PerBay.le_sum_ofFn _ b).trans (sum_steamPart_le y s)
    rw [steamCredits_of_steaming y hb, Nat.min_eq_left (hpart.trans (h b hb))]
  | false => rw [steamCredits_of_not_steaming y hb, steamPart_of_not_steaming y hb]

/-- Settles O49: the parts add up to the yield as far as there are bays to take the leftover, and a credit is a part cut
to what the step lacks. -/
theorem steamCreditsShareTheYieldByLevel : Obligations.SteamCreditsShareTheYieldByLevel := by
  intro y s
  refine ⟨fun b => steamCredits_of_not_steaming y, fun b hb => ?credit, ?atMost, fun hsome hlevel => ⟨?left, ?whole⟩⟩
  case credit =>
    rw [steamCredits_of_steaming y hb, steamPart, steamShares, PerBay.get_ofFn]
    rfl
  case atMost => exact (PerBay.sum_ofFn_mono (steamCredits_le_part y s)).trans (sum_steamPart_le y s)
  case left => exact leftover_lt_length y hsome hlevel
  case whole =>
    intro hlacking
    have hleft := leftover_lt_length y hsome hlevel
    have hle := steamShares_sum_le y s
    have hcredits : steamCredits y s = PerBay.ofFn (steamPart y s) :=
      PerBay.ext_get fun b => by rw [steamCredits_eq_part hlacking, PerBay.get_ofFn]
    rw [hcredits, sum_steamPart, Nat.min_eq_left hleft.le, leftover]
    omega

end Sys2Proof.Machine
end

section
/-! What a move of the boiler does to the supervisor's events, the boiler's grant and the want of steam (R94, R97, R149). -/

namespace Sys2Proof.Machine

/-- Something done for every bay in turn keeps what it keeps for each. -/
theorem forBays_keeps {α : Type} (view : State → α) {f : Bay → State → State} (h : ∀ b s, view (f b s) = view s)
    (s : State) : view (forBays f s) = view s := by
  simp only [forBays, h]

/-! ### The want of steam -/

/-- A new hold-reason set leaves the bay's program where it stands, so the bay wants steam as before (R97). -/
theorem changeHolds_bayWantsSteam (b c : Bay) (h : HoldSet) (s : State) :
    bayWantsSteam ((changeHolds b h s).bsq.get c) = bayWantsSteam (s.bsq.get c) := by
  by_cases hc : c = b
  case neg => rw [(changeHolds_frame b h s).bsq c hc]
  subst hc
  rcases changeHolds_cases c h s with hsame | ⟨x, hx, hst, -, hto⟩ | ⟨x, hx, hst, -, hto⟩ | ⟨hto, -⟩
  · rw [hsame]
  · rw [hto]
    simp [bayWantsSteam, hx, hst, contextWantsSteam]
  · rw [hto]
    simp [bayWantsSteam, hx, hst, contextWantsSteam]
  · rw [hto]
    rfl

theorem reholdSteam_bayWantsSteam (b c : Bay) (s : State) :
    bayWantsSteam ((reholdSteam b s).bsq.get c) = bayWantsSteam (s.bsq.get c) := by
  unfold reholdSteam
  split
  · exact changeHolds_bayWantsSteam b c _ s
  · rfl

/-- Whether steam is wanted depends on the mode and on which bays want it (R97). -/
theorem steamWanted_congr {s t : State} (hmoc : t.moc = s.moc)
    (hbays : ∀ b, bayWantsSteam (t.bsq.get b) = bayWantsSteam (s.bsq.get b)) : steamWanted t = steamWanted s := by
  have hany : t.bsq.toList.any bayWantsSteam = s.bsq.toList.any bayWantsSteam := by
    rw [Bool.eq_iff_iff, PerBay.any_toList_iff, PerBay.any_toList_iff]
    simp only [hbays]
  rw [steamWanted, steamWanted, hmoc, hany]

theorem reholdSteam_steamWanted (b : Bay) (s : State) : steamWanted (reholdSteam b s) = steamWanted s :=
  steamWanted_congr (reholdSteam_frame b s).moc fun c => reholdSteam_bayWantsSteam b c s

/-! ### A move to another state -/

/-- The state in which a move re-evaluates the bays: the boiler is in its new state, BOILER_CHANGE is raised, and the grant
of a boiler no longer heated is withdrawn (R94, R95). -/
def boilerMoved (next : BoilerState) (s : State) : State :=
  let moved := { s with blc := moveBlc next (decide (s.moc.pumpMode = .auto)) s.blc }
  raiseSup .boilerChange (if isHot s.blc.state && !isHot next then withdrawBoiler moved else moved)

theorem toBoiler_of_ne {next : BoilerState} {s : State} (h : s.blc.state ≠ next) :
    toBoiler next s = forBays driveValve (forBays reholdSteam (boilerMoved next s)) :=
  if_neg h

theorem toBoiler_supervisor {next : BoilerState} {s : State} (h : s.blc.state ≠ next) :
    (toBoiler next s).supervisor = (boilerMoved next s).supervisor := by
  rw [toBoiler_of_ne h, forBays_keeps State.supervisor driveValve_supervisor,
    forBays_keeps State.supervisor fun b s => (reholdSteam_frame b s).supervisor]

/-- A move raises BOILER_CHANGE (R95). -/
theorem toBoiler_pendingSet {next : BoilerState} {s : State} (h : s.blc.state ≠ next) :
    (toBoiler next s).supervisor.pending = s.supervisor.pending ||| 0x0008#16 := by
  rw [toBoiler_supervisor h, boilerMoved]
  split <;> rfl

/-- Leaving HEAT and READY withdraws the boiler heater's grant (R94). -/
theorem toBoiler_grant_of_leaves_hot {next : BoilerState} {s : State} (hhot : isHot s.blc.state = true)
    (hnext : isHot next = false) : (toBoiler next s).pae.grants.boiler = 0 := by
  have hne : s.blc.state ≠ next := fun he => by simp [he, hnext] at hhot
  rw [toBoiler_of_ne hne, forBays_keeps (fun t => t.pae.grants.boiler) fun b s => by rw [driveValve_pae],
    forBays_keeps (fun t => t.pae.grants.boiler) fun b s => by rw [(reholdSteam_frame b s).pae], boilerMoved]
  simp [hhot, hnext, withdrawBoiler]

/-- A move leaves the bays' programs as they are, so steam is wanted as before. -/
theorem toBoiler_steamWanted (next : BoilerState) (s : State) : steamWanted (toBoiler next s) = steamWanted s := by
  by_cases h : s.blc.state = next
  · rw [toBoiler, if_pos h]
  · rw [toBoiler_of_ne h, forBays_keeps steamWanted (f := driveValve) fun b s => rfl,
      forBays_keeps steamWanted reholdSteam_steamWanted, boilerMoved]
    split <;> rfl

theorem toBoiler_cause (next : BoilerState) (s : State) : (toBoiler next s).blc.cause = s.blc.cause := by
  by_cases h : s.blc.state = next
  · rw [toBoiler, if_pos h]
  · rw [toBoiler_blc next s h]
    rfl

/-- An event already raised stays as it is. -/
theorem toBoiler_pendingSet_again {pending : Half} {s : State} (next : BoilerState)
    (h : s.supervisor.pending = pending ||| 0x0008#16) :
    (toBoiler next s).supervisor.pending = pending ||| 0x0008#16 := by
  by_cases hst : s.blc.state = next
  · rw [toBoiler, if_pos hst, h]
  · rw [toBoiler_pendingSet hst, h, BitVec.or_assoc, BitVec.or_self]

/-! ### The start of a COLD boiler (R98, R99, R103) -/

/-- The start is made of moves: what every move keeps, it keeps. -/
theorem examineStart_keeps {p : State → Prop} (h : ∀ next s, p s → p (toBoiler next s)) {s : State} (hs : p s) :
    p (examineStart s) := by
  have hheat : p (enterHeat s) := by
    unfold enterHeat
    dsimp only
    split
    · exact h _ _ (h _ _ hs)
    · exact h _ _ hs
  have hfill : p (towardsFill s) := by
    unfold towardsFill
    split <;> exact h _ _ hs
  unfold examineStart
  split
  · split
    · exact hheat
    · exact hfill
  · exact hs

theorem boilerTempIs_iff (test : Nat → Bool) (s : State) :
    boilerTempIs test s = true ↔ ∃ v, s.snu.boilerTemp.state = .valid ∧ s.snu.boilerTemp.last = some v ∧ test v = true := by
  unfold boilerTempIs
  split
  next v hst hv => simp [hst, hv]
  next hno => exact ⟨fun h => (Bool.false_ne_true h).elim, fun ⟨v, hst, hv, _⟩ => (hno v hst hv).elim⟩

theorem enterHeat_state_of_below {s : State} {v : Nat} (hv : s.snu.boilerTemp.last = some v) (hlt : v < 102) :
    (enterHeat s).blc.state = .heat := by
  have hcool : ¬ boilerTempIs (fun t => decide (readyTemp ≤ t)) (toBoiler .heat s) = true := by
    rw [boilerTempIs_iff, (toBoiler_plantFrame .heat s).snu, hv]
    rintro ⟨w, -, hw, hle⟩
    cases hw
    exact Nat.not_lt.mpr (of_decide_eq_true hle) hlt
  rw [enterHeat, if_neg hcool, toBoiler_state]

theorem towardsFill_state (s : State) :
    (towardsFill s).blc.state = if s.snu.freshEmpty.filtered then .starved else .fill := by
  unfold towardsFill
  split <;> exact toBoiler_state _ _

theorem examineStart_unwanted {s : State} (h : steamWanted s = false ∨ s.moc.pumpMode = .service) :
    examineStart s = s := by
  refine if_neg fun ⟨_, hwanted, _, _, hauto⟩ => ?_
  rcases h with hno | hservice
  · simp [hno] at hwanted
  · simp [hservice] at hauto

theorem examineStart_wanted {s : State} (hcold : s.blc.state = .cold) (hwanted : steamWanted s = true)
    (hcut : s.snu.boilerCutout.filtered = false) (hvalid : s.snu.boilerTemp.state = .valid)
    (hauto : s.moc.pumpMode = .auto) :
    examineStart s = if s.snu.boilerWaterOk.filtered then enterHeat s else towardsFill s :=
  if_pos ⟨hcold, hwanted, hcut, hvalid, hauto⟩

end Sys2Proof.Machine
end

section
/-! BOILER_CLEAR, one equation for each way it can end (R107), and the boiler's two timers (R100, R105). -/

namespace Sys2Proof.Machine

/-! ### BOILER_CLEAR -/

/-- The supervisor becoming PRESENT leaves the boiler as it is (R174). -/
theorem heard_supervisor_blc (s : State) : (heard .supervisor s).blc = s.blc := by
  unfold heard becomePresent
  dsimp only
  split <;> rfl

theorem heard_supervisor_steamWanted (s : State) : steamWanted (heard .supervisor s) = steamWanted s :=
  steamWanted_congr (heard_moc .supervisor s) fun b => by rw [heard_supervisor_bsq]

/-- The supervisor clears the boiler: its controller answers (R107, R175). -/
theorem exec_boilerClear_supervisor {s : State} (noise : Bool) (hA : Awake s) :
    exec (.boilerClear .supervisor noise) s =
      .next (respond .supervisor 0x16#8 noise (ownerBoilerClear (heard .supervisor s)).2
        (ownerBoilerClear (heard .supervisor s)).1) := by
  have hp : Passes .supervisor .boilerClear s := ⟨rfl, rfl, rfl, rfl, fun b hb => nomatch hb⟩
  change Host.Outcome.next (takeRequest _ noise _ s) = _
  rw [takeRequest_passes noise hA hp]
  rfl

/-- The state with the lock cause cleared and the boiler at COLD. -/
def boilerUnlocked (s : State) : State := toBoiler .cold { s with blc := { s.blc with cause := .none } }

/-- The filtered cutout is false and the temperature VALID and below 90 °C (R107). -/
def mayClearBoiler (s : State) : Prop :=
  s.snu.boilerCutout.filtered = false ∧
    ∃ v, s.snu.boilerTemp.state = .valid ∧ s.snu.boilerTemp.last = some v ∧ v < 90

theorem ownerBoilerClear_clears {s : State} (hlocked : s.blc.state = .locked) (hclear : mayClearBoiler s) :
    ownerBoilerClear s =
      (examineStart (boilerUnlocked s), ackWith [boilerStateCode (examineStart (boilerUnlocked s)).blc.state]) := by
  obtain ⟨hcut, v, hvalid, hv, hlt⟩ := hclear
  exact if_pos ⟨hlocked, hcut, (boilerTempIs_iff _ s).mpr ⟨v, hvalid, hv, decide_eq_true hlt⟩⟩

theorem ownerBoilerClear_refuses {s : State} (h : s.blc.state ≠ .locked ∨ ¬ mayClearBoiler s) :
    ownerBoilerClear s = (s, nakWith .badState [boilerStateCode s.blc.state, lockCauseCode s.blc.cause]) := by
  refine if_neg fun ⟨hlocked, hcut, htemp⟩ => ?_
  obtain ⟨v, hvalid, hv, hlt⟩ := (boilerTempIs_iff _ s).mp htemp
  exact h.elim (fun hne => hne hlocked) fun hno => hno ⟨hcut, v, hvalid, hv, of_decide_eq_true hlt⟩

theorem boilerUnlocked_plantFrame (s : State) : PlantFrame s (boilerUnlocked s) := by
  have h : PlantFrame s { s with blc := { s.blc with cause := .none } } := by constructor <;> rfl
  exact h.trans (toBoiler_plantFrame .cold _)

theorem boilerUnlocked_steamWanted (s : State) : steamWanted (boilerUnlocked s) = steamWanted s :=
  toBoiler_steamWanted .cold _

/-- A cleared boiler stays at COLD where steam is not wanted or the pump is in SERVICE (R98). -/
theorem cleared_state_unwanted {s : State} (h : steamWanted s = false ∨ s.moc.pumpMode = .service) :
    (examineStart (boilerUnlocked s)).blc.state = .cold := by
  rw [← boilerUnlocked_steamWanted, ← (boilerUnlocked_plantFrame s).moc] at h
  rw [examineStart_unwanted h]
  exact toBoiler_state .cold _

/-- A cleared boiler is started where steam is wanted; below 90 °C it is not READY at once (R98, R99, R103). -/
theorem cleared_state_wanted {s : State} (hclear : mayClearBoiler s) (hwanted : steamWanted s = true)
    (hauto : s.moc.pumpMode = .auto) :
    (examineStart (boilerUnlocked s)).blc.state =
      if s.snu.boilerWaterOk.filtered then .heat else if s.snu.freshEmpty.filtered then .starved else .fill := by
  obtain ⟨hcut, v, hvalid, hv, hlt⟩ := hclear
  have hframe := boilerUnlocked_plantFrame s
  rw [← boilerUnlocked_steamWanted] at hwanted
  rw [← hframe.moc] at hauto
  rw [← hframe.snu] at hcut hvalid hv ⊢
  have hcold : (boilerUnlocked s).blc.state = .cold := toBoiler_state .cold _
  rw [examineStart_wanted hcold hwanted hcut hvalid hauto]
  split
  · exact enterHeat_state_of_below hv (by omega)
  · exact towardsFill_state _

theorem cleared_cause (s : State) : (examineStart (boilerUnlocked s)).blc.cause = .none :=
  examineStart_keeps (p := fun t => t.blc.cause = .none) (fun next t h => (toBoiler_cause next t).trans h)
    (toBoiler_cause .cold _)

theorem cleared_pendingSet {s : State} (hlocked : s.blc.state = .locked) :
    (examineStart (boilerUnlocked s)).supervisor.pending = s.supervisor.pending ||| 0x0008#16 :=
  examineStart_keeps (p := fun t => t.supervisor.pending = s.supervisor.pending ||| 0x0008#16)
    (fun next _ h => toBoiler_pendingSet_again next h) (toBoiler_pendingSet (by simp [hlocked]))

/-! ### The fill timer and the idle cooldown timer -/

theorem exec_fillTimeout_fill {s : State} (h : s.blc.state = .fill) :
    exec .fillTimeout s = .next (toBoiler .starved s) :=
  congrArg Host.Outcome.next (if_pos h)

theorem exec_fillTimeout_other {s : State} (h : s.blc.state ≠ .fill) : exec .fillTimeout s = .next s :=
  congrArg Host.Outcome.next (if_neg h)

theorem isHot_iff (b : BoilerState) : isHot b = true ↔ b = .heat ∨ b = .ready := by simp [isHot]

theorem cooldownCounts_iff (s : State) :
    cooldownCounts s = true ↔ (s.blc.state = .heat ∨ s.blc.state = .ready) ∧ steamWanted s = false := by
  simp [cooldownCounts, isHot_iff]

theorem exec_idleCooldown_counts {s : State} (hhot : s.blc.state = .heat ∨ s.blc.state = .ready)
    (hwanted : steamWanted s = false) : exec .idleCooldown s = .next (toBoiler .cold s) :=
  congrArg Host.Outcome.next (if_pos ((cooldownCounts_iff s).mpr ⟨hhot, hwanted⟩))

theorem exec_idleCooldown_other {s : State}
    (h : (s.blc.state ≠ .heat ∧ s.blc.state ≠ .ready) ∨ steamWanted s = true) : exec .idleCooldown s = .next s := by
  refine congrArg Host.Outcome.next (if_neg fun hcounts => ?_)
  obtain ⟨hhot, hwanted⟩ := (cooldownCounts_iff s).mp hcounts
  rcases h with ⟨hheat, hready⟩ | hw
  · exact hhot.elim hheat hready
  · simp [hw] at hwanted

/-- Rings, inputs, store, modes and straps across a plant frame. -/
theorem PlantFrame.untouched {s t : State} (h : PlantFrame s t) :
    t.srs = s.srs ∧ t.oau = s.oau ∧ t.snu = s.snu ∧ t.pts = s.pts ∧ t.moc = s.moc ∧ t.fitted = s.fitted :=
  ⟨h.srs, h.oau, h.snu, h.pts, h.moc, h.fitted⟩

/-- Settles O47: hearing the supervisor moves neither the boiler, its inputs nor the want of steam, and each outcome is a
move of the boiler, whose frame gives the rest of the state. -/
theorem boilerClearFillTimeoutAndCooldown : Obligations.BoilerClearFillTimeoutAndCooldown := by
  intro noise s
  refine ⟨fun hA => ⟨fun hlocked hcut hclear => ?clears, fun hrefused => ?refuses⟩, fun hfill => ?starves,
    exec_fillTimeout_other, fun hhot hwanted => ?cools, exec_idleCooldown_other⟩
  case clears =>
    have hgot := exec_boilerClear_supervisor noise hA
    rw [← heard_supervisor_blc] at hlocked
    rw [← heard_supervisor_steamWanted, ← heard_moc .supervisor s]
    simp only [← heard_snu .supervisor s] at hcut hclear ⊢
    generalize heard .supervisor s = h at *
    have hmay : mayClearBoiler h := ⟨hcut, hclear⟩
    rw [ownerBoilerClear_clears hlocked hmay] at hgot
    have hframe := (boilerUnlocked_plantFrame h).trans (examineStart_plantFrame _)
    exact ⟨_, hgot, cleared_cause h, cleared_state_unwanted, cleared_state_wanted hmay, rfl, cleared_pendingSet hlocked,
      hframe.untouched⟩
  case refuses =>
    have hblc := heard_supervisor_blc s
    rw [exec_boilerClear_supervisor noise hA, ownerBoilerClear_refuses, hblc]
    · rfl
    rw [hblc, mayClearBoiler, heard_snu]
    refine hrefused.imp_right fun hno hmay => ?_
    obtain ⟨hcut, hclear⟩ := hmay
    exact hno.elim (fun h => by simp [hcut] at h) fun h => h hclear
  case starves =>
    have hne : s.blc.state ≠ .starved := by simp [hfill]
    have hframe := toBoiler_plantFrame .starved s
    have hblc := toBoiler_blc .starved s hne
    refine ⟨_, exec_fillTimeout_fill hfill, toBoiler_state .starved s, ?_, fun hauto => ?_, toBoiler_pendingSet hne,
      hframe.untouched, hframe.pli⟩
    · rw [hblc]
      rfl
    · rw [hblc]
      simp [moveBlc, hauto]
  case cools =>
    have hisHot := (isHot_iff s.blc.state).mpr hhot
    have hne : s.blc.state ≠ .cold := fun hcold => by simp [hcold, isHot] at hisHot
    have hframe := toBoiler_plantFrame .cold s
    have hblc := toBoiler_blc .cold s hne
    refine ⟨_, exec_idleCooldown_counts hhot hwanted, toBoiler_state .cold s, ?_, ?_, fun hready => ?_,
      toBoiler_grant_of_leaves_hot hisHot rfl, toBoiler_pendingSet hne, hframe.untouched, hframe.pli⟩
    · rw [hblc]
      simp [moveBlc, isHot]
    · rw [hblc]
      exact if_pos (by rw [hisHot]; rfl)
    · rw [hblc]
      simp [moveBlc, hready]

end Sys2Proof.Machine
end

section
/-! A sample of a channel: what a conversion makes of the channel itself (R136, R137), what its consumers leave of the
rest of the state, and the SENSOR_FAULT of a channel that reaches FAULT (R106, R138). -/

namespace Sys2Proof.Machine

/-! ### Replacing a channel -/

theorem channelOf_setChannel_same (ch : Analog) (c : Channel) (u : Snu) : channelOf (setChannel ch c u) ch = c := by
  cases ch with
  | bayTemperature b => exact PerBay.get_set_same u.temps b c
  | bayHumidity b => exact PerBay.get_set_same u.hums b c
  | boilerTemperature => rfl

theorem channelOf_setChannel_other {ch other : Analog} (c : Channel) (u : Snu) (h : other ≠ ch) :
    channelOf (setChannel ch c u) other = channelOf u other := by
  cases ch with
  | bayTemperature b =>
    cases other with
    | bayTemperature d => exact PerBay.get_set_other u.temps c fun hd => h (congrArg _ hd)
    | bayHumidity d => rfl
    | boilerTemperature => rfl
  | bayHumidity b =>
    cases other with
    | bayTemperature d => rfl
    | bayHumidity d => exact PerBay.get_set_other u.hums c fun hd => h (congrArg _ hd)
    | boilerTemperature => rfl
  | boilerTemperature =>
    cases other with
    | bayTemperature d => rfl
    | bayHumidity d => rfl
    | boilerTemperature => exact absurd rfl h

theorem switchOf_setChannel (ch : Analog) (c : Channel) (u : Snu) (sw : Switch) :
    switchOf (setChannel ch c u) sw = switchOf u sw := by
  cases ch <;> rfl

/-! ### The move of a channel (R137) -/

section
variable {ch : Analog} {raw : BitVec 10} {v : Nat} {c : Channel}

/-- The channel with a code at its pin that has been converted, before the sample moves it. -/
def withCode (raw : BitVec 10) (c : Channel) : Channel := { c with pin := raw, rawCode := some raw }

theorem channelSample_of_valid (h : convert ch raw = some v) :
    channelSample ch raw c = validSample v (withCode raw c) := by
  simp [channelSample, h, withCode]

theorem channelSample_of_invalid (h : convert ch raw = none) :
    channelSample ch raw c = invalidSample (withCode raw c) := by
  simp [channelSample, h, withCode]

/-- A sample moves the channel, not its codes. -/
theorem channelSample_codes (ch : Analog) (raw : BitVec 10) (c : Channel) :
    (channelSample ch raw c).pin = raw ∧ (channelSample ch raw c).rawCode = some raw := by
  cases h : convert ch raw with
  | none =>
    rw [channelSample_of_invalid h, invalidSample]
    split <;> exact ⟨rfl, rfl⟩
  | some v =>
    rw [channelSample_of_valid h, validSample]
    split
    case h_4 => split <;> exact ⟨rfl, rfl⟩
    all_goals exact ⟨rfl, rfl⟩

theorem validSample_last (v : Nat) (c : Channel) : (validSample v c).last = some v := by
  unfold validSample
  split
  case h_4 => split <;> rfl
  all_goals rfl

/-- A valid sample makes a channel VALID unless it is in FAULT, and ends the run of invalid ones. -/
theorem validSample_of_not_fault (v : Nat) (h : c.state ≠ .fault) :
    (validSample v c).state = .valid ∧ (c.state ≠ .valid → (validSample v c).invalidRun = 0) := by
  cases hst : c.state with
  | unknown => simp [validSample, hst]
  | valid => simp [validSample, hst]
  | stale => simp [validSample, hst]
  | fault => exact absurd hst h

/-- The third valid sample in a row takes a channel out of FAULT. -/
theorem validSample_of_fault (v : Nat) (h : c.state = .fault) :
    (validSample v c).invalidRun = 0 ∧
      (c.validRun < 2 → (validSample v c).state = .fault ∧ (validSample v c).validRun = c.validRun + 1) ∧
      (2 ≤ c.validRun → (validSample v c).state = .valid ∧ (validSample v c).validRun = 0) := by
  by_cases hrun : 3 ≤ c.validRun + 1
  · simp only [validSample, h, if_pos hrun, true_and]
    exact ⟨fun hlt => absurd hrun (by omega), fun _ => trivial⟩
  · simp only [validSample, h, if_neg hrun, true_and]
    exact ⟨fun _ => trivial, fun hle => absurd hle (by omega)⟩

theorem invalidSample_last (c : Channel) : (invalidSample c).last = c.last := by
  unfold invalidSample
  split <;> rfl

theorem invalidSample_of_valid (h : c.state = .valid) : invalidSample c = { c with state := .stale, invalidRun := 1 } := by
  simp [invalidSample, h]

theorem invalidSample_of_fault (h : c.state = .fault) : invalidSample c = { c with validRun := 0 } := by
  simp [invalidSample, h]

/-- The fifth invalid sample in a row takes an UNKNOWN or STALE channel to FAULT. -/
theorem invalidSample_of_unknown_or_stale (h : c.state = .unknown ∨ c.state = .stale) :
    (invalidSample c).invalidRun = min 5 (c.invalidRun + 1) ∧
      (c.invalidRun < 4 → (invalidSample c).state = c.state) ∧
      (4 ≤ c.invalidRun → (invalidSample c).state = .fault) := by
  have hagain : invalidSample c = invalidAgain c := by
    rcases h with h | h <;> simp [invalidSample, h]
  rw [hagain]
  exact ⟨rfl, fun hlt => if_neg (by omega), fun hle => if_pos (by omega)⟩

theorem reachesFault_iff (old new : Channel) :
    reachesFault old new = true ↔ old.state ≠ .fault ∧ new.state = .fault := by
  simp [reachesFault]

theorem becomesValid_eq_false {old new : Channel} (h : new.state ≠ .valid) : becomesValid old new = false := by
  simp [becomesValid, h]

theorem validValue_eq_none (h : c.state ≠ .valid) : validValue c = none := by
  unfold validValue
  split
  next hv => exact absurd hv h
  next => rfl

end

/-! ### What the consumers keep -/

section
variable (b : Bay) (old new : Channel) (s : State)

theorem raiseSup_kept (e : SupEvent) : Kept s (raiseSup e s) := .of_plant (raiseSup_plantFrame e s)

theorem channelFault_kept : Kept s (channelFault b old new s) :=
  Kept.ite (fun _ => (raiseSup_kept s _).trans (.of_bay (baySensorFault_frame b _))) fun _ => .refl s

theorem channelBack_kept : Kept s (channelBack b old new s) :=
  Kept.ite (fun _ => examineAdmission_kept b s) fun _ => .refl s

theorem compareGoal_kept (kind : StepKind) : Kept s (compareGoal kind b new s) := by
  unfold compareGoal
  split
  next =>
    refine Kept.ite (fun _ => ?_) fun _ => .refl s
    split
    next =>
      exact Kept.ite (fun _ => (Kept.of_bay (setContext_frame b _ s)).trans (endStep_kept b _ _))
        fun _ => .of_bay (setContext_frame b _ s)
    next => exact .refl s
  next => exact .refl s

theorem parkSample_kept : Kept s (parkSample b s) :=
  Kept.ite (fun _ => endPark_kept b s) fun _ => .refl s

theorem consumeTemperature_kept : Kept s (consumeTemperature b old new s) := by
  have hfault := channelFault_kept b old new s
  refine Kept.trans ?_ (channelBack_kept b old new _)
  refine Kept.trans ?_ (parkSample_kept b _)
  refine Kept.trans ?_ (compareGoal_kept b new _ _)
  refine Kept.trans ?_ (.of_bay (formDemand_frame b _))
  exact Kept.ite (fun _ => hfault.trans (.of_bay (withdrawAux_frame b _))) fun _ => hfault

theorem consumeHumidity_kept : Kept s (consumeHumidity b old new s) :=
  ((channelFault_kept b old new s).trans (compareGoal_kept b new _ _)).trans (channelBack_kept b old new _)

theorem compareBoiler_plantFrame (v : Nat) : PlantFrame s (compareBoiler v s) :=
  PlantFrame.ite (fun _ => lockBoiler_plantFrame _ s) fun _ =>
    PlantFrame.ite (fun _ => toBoiler_plantFrame _ s) fun _ =>
      PlantFrame.ite (fun _ => toBoiler_plantFrame _ s) fun _ => .refl s

theorem consumeBoiler_plantFrame : PlantFrame s (consumeBoiler old new s) := by
  unfold consumeBoiler
  refine PlantFrame.ite (fun _ => (raiseSup_plantFrame _ s).trans (lockBoiler_plantFrame _ _)) fun _ => ?_
  cases validValue new with
  | none => exact PlantFrame.ite (fun _ => examineStart_plantFrame s) fun _ => .refl s
  | some v =>
    have hcompared := compareBoiler_plantFrame s v
    exact PlantFrame.ite (fun _ => hcompared.trans (examineStart_plantFrame _)) fun _ => hcompared

end

/-! ### SENSOR_FAULT -/

/-- SENSOR_FAULT is pending at the supervisor. -/
def SensorFaultPending (s : State) : Prop := s.supervisor.pending &&& 0x0080#16 ≠ 0#16

theorem raiseSup_sensorFault_pending (s : State) : SensorFaultPending (raiseSup .sensorFault s) := by
  change (s.supervisor.pending ||| 0x0080#16) &&& 0x0080#16 ≠ 0#16
  rw [BitVec.and_or_distrib_right, BitVec.and_self]
  exact fun h => absurd (BitVec.or_eq_zero_iff.mp h).2 (by decide)

theorem BayFrame.sensorFaultPending {b : Bay} {s t : State} (h : BayFrame b s t) (hs : SensorFaultPending s) :
    SensorFaultPending t := by
  rwa [SensorFaultPending, h.supervisor]

/-- A move of the boiler raises a further event and clears none (R95). -/
theorem toBoiler_sensorFaultPending (next : BoilerState) {s : State} (h : SensorFaultPending s) :
    SensorFaultPending (toBoiler next s) := by
  by_cases hst : s.blc.state = next
  · rwa [toBoiler, if_pos hst]
  · rw [SensorFaultPending, toBoiler_pendingSet hst, BitVec.and_or_distrib_right]
    exact fun hzero => h (BitVec.or_eq_zero_iff.mp hzero).1

theorem lockBoiler_sensorFaultPending (cause : LockCause) {s : State} (h : SensorFaultPending s) :
    SensorFaultPending (lockBoiler cause s) := by
  unfold lockBoiler
  split
  · exact h
  · exact toBoiler_sensorFaultPending .locked h

/-- Without a VALID sample the count returns to 0 and the step goes on (R57). -/
theorem compareGoal_frame_of_not_valid (kind : StepKind) (b : Bay) {new : Channel} (s : State)
    (h : new.state ≠ .valid) : BayFrame b s (compareGoal kind b new s) := by
  unfold compareGoal
  split
  next =>
    refine BayFrame.ite (fun _ => ?_) fun _ => .refl b s
    split
    next =>
      simp only [nextSatisfied, validValue_eq_none h]
      exact setContext_frame b _ s
    next => exact .refl b s
  next => exact .refl b s

/-- Without a VALID bay temperature no sample ends a park (R69). -/
theorem parkSample_of_not_valid {b : Bay} {s : State} (h : (s.snu.temps.get b).state ≠ .valid) : parkSample b s = s := by
  refine if_neg fun ⟨_, _, hcool⟩ => ?_
  unfold parkCool at hcool
  split at hcool
  next hvalid _ => exact h hvalid
  next => exact Bool.false_ne_true hcool

section
variable {b : Bay} {old new : Channel} {s : State}

theorem channelBack_of_not_valid (h : new.state ≠ .valid) : channelBack b old new s = s := by
  simp [channelBack, becomesValid_eq_false h]

theorem channelFault_sensorFaultPending (h : reachesFault old new = true) :
    SensorFaultPending (channelFault b old new s) := by
  rw [channelFault, if_pos h]
  exact (baySensorFault_frame b _).sensorFaultPending (raiseSup_sensorFault_pending s)

/-- No admission is examined and no step or park ends on a channel in FAULT: what follows stays within the bay. -/
theorem consumeTemperature_sensorFaultPending (h : reachesFault old new = true) (hnew : s.snu.temps.get b = new) :
    SensorFaultPending (consumeTemperature b old new s) := by
  have hst : new.state ≠ .valid := by simp [((reachesFault_iff old new).mp h).2]
  have hfault := channelFault_sensorFaultPending (b := b) (s := s) h
  have hsnu := (channelFault_kept b old new s).snu
  unfold consumeTemperature
  generalize channelFault b old new s = u at hfault hsnu
  have hframe : BayFrame b u (compareGoal .cool b new (formDemand b
      (if leavesValid old new || atLimit b new u then withdrawAux b u else u))) :=
    ((BayFrame.ite (fun _ => withdrawAux_frame b u) fun _ => .refl b u).trans (formDemand_frame b _)).trans
      (compareGoal_frame_of_not_valid .cool b _ hst)
  dsimp only
  rw [channelBack_of_not_valid hst, parkSample_of_not_valid (by rwa [hframe.snu, hsnu, hnew])]
  exact hframe.sensorFaultPending hfault

theorem consumeHumidity_sensorFaultPending (h : reachesFault old new = true) :
    SensorFaultPending (consumeHumidity b old new s) := by
  have hst : new.state ≠ .valid := by simp [((reachesFault_iff old new).mp h).2]
  rw [consumeHumidity, channelBack_of_not_valid hst]
  exact (compareGoal_frame_of_not_valid .dry b _ hst).sensorFaultPending (channelFault_sensorFaultPending h)

theorem consumeBoiler_sensorFaultPending (h : reachesFault old new = true) :
    SensorFaultPending (consumeBoiler old new s) := by
  rw [consumeBoiler, if_pos h]
  exact lockBoiler_sensorFaultPending .sensor (raiseSup_sensorFault_pending s)

end

/-! ### The conversion -/

section
variable {ch : Analog} {raw : BitVec 10} {s : State}

/-- The state in which the consumers take a conversion: the channel has moved and is no longer due. -/
def withConversion (ch : Analog) (raw : BitVec 10) (s : State) : State :=
  { s with
    snu := { setChannel ch (channelSample ch raw (channelOf s.snu ch)) s.snu with
      analogDue := s.snu.analogDue.erase ch } }

theorem withConversion_channelOf_same :
    channelOf (withConversion ch raw s).snu ch = channelSample ch raw (channelOf s.snu ch) := by
  rw [← channelOf_setChannel_same ch (channelSample ch raw (channelOf s.snu ch)) s.snu]
  cases ch <;> rfl

theorem withConversion_channelOf_other {other : Analog} (h : other ≠ ch) :
    channelOf (withConversion ch raw s).snu other = channelOf s.snu other := by
  rw [← channelOf_setChannel_other (channelSample ch raw (channelOf s.snu ch)) s.snu h]
  cases other <;> rfl

theorem withConversion_switchOf (sw : Switch) : switchOf (withConversion ch raw s).snu sw = switchOf s.snu sw := by
  rw [← switchOf_setChannel ch (channelSample ch raw (channelOf s.snu ch)) s.snu sw]
  cases sw <;> rfl

theorem takeAnalog_kept (ch : Analog) (raw : BitVec 10) (s : State) :
    Kept (withConversion ch raw s) (takeAnalog ch raw s) := by
  cases ch with
  | bayTemperature b => exact consumeTemperature_kept b _ _ _
  | bayHumidity b => exact consumeHumidity_kept b _ _ _
  | boilerTemperature => exact .of_plant (consumeBoiler_plantFrame _ _ _)

theorem takeAnalog_sensorFaultPending
    (h : reachesFault (channelOf s.snu ch) (channelSample ch raw (channelOf s.snu ch)) = true) :
    SensorFaultPending (takeAnalog ch raw s) := by
  cases ch with
  | bayTemperature b =>
    exact consumeTemperature_sensorFaultPending (s := withConversion (.bayTemperature b) raw s) h
      (withConversion_channelOf_same (ch := .bayTemperature b))
  | bayHumidity b => exact consumeHumidity_sensorFaultPending h
  | boilerTemperature => exact consumeBoiler_sensorFaultPending h

theorem exec_analogSample_unsampled (h : s.moc.phase = .sleep ∨ channelFitted s ch = false) :
    exec (.analogSample ch raw) s = .next s := by
  refine congrArg Host.Outcome.next (if_neg ?_)
  rcases h with h | h <;> simp [samplesRun, h]

theorem exec_analogSample_sampled (hphase : s.moc.phase ≠ .sleep) (hfit : channelFitted s ch = true) :
    exec (.analogSample ch raw) s = .next (takeAnalog ch raw s) :=
  congrArg Host.Outcome.next (if_pos (by simp [samplesRun, hphase, hfit]))

end

/-- Settles O53: the channel moves by the rule for its sample before any consumer acts, and the consumers keep every
input. -/
theorem analogSampleMovesItsChannel : Obligations.AnalogSampleMovesItsChannel := by
  intro ch raw s c value
  have hvalue : value = convert ch raw := by cases ch <;> rfl
  refine ⟨exec_analogSample_unsampled, fun hphase hfit => ⟨_, exec_analogSample_sampled hphase hfit, ?_⟩⟩
  have hkept := takeAnalog_kept ch raw s
  have hsensor := takeAnalog_sensorFaultPending (ch := ch) (raw := raw) (s := s)
  rw [hvalue, hkept.snu, withConversion_channelOf_same]
  obtain ⟨hpin, hcode⟩ := channelSample_codes ch raw c
  refine ⟨hpin, hcode, fun v hv => ?valid, fun hv => ?invalid, fun _ => withConversion_channelOf_other,
    withConversion_switchOf, hkept.moc, hkept.pli, hkept.pts, hkept.fitted, hkept.pending⟩
  case valid =>
    rw [channelSample_of_valid hv]
    exact ⟨validSample_last v _, validSample_of_not_fault (c := withCode raw c) v,
      validSample_of_fault (c := withCode raw c) v⟩
  case invalid =>
    rw [reachesFault_iff, channelSample_of_invalid hv] at hsensor
    rw [channelSample_of_invalid hv]
    refine ⟨invalidSample_last _, fun hst => ?_, fun hst => ?_, fun hst => ?_⟩
    · rw [invalidSample_of_valid (c := withCode raw c) hst]
      exact ⟨rfl, rfl⟩
    · obtain ⟨hrun, hstays, hfault⟩ := invalidSample_of_unknown_or_stale (c := withCode raw c) hst
      refine ⟨hrun, hstays, fun hle => ⟨hfault hle, hsensor ⟨?_, hfault hle⟩⟩⟩
      rcases hst with hst | hst <;> simp [c, hst]
    · rw [invalidSample_of_fault (c := withCode raw c) hst]
      exact ⟨hst, rfl⟩

end Sys2Proof.Machine
end

section
/-! What every step keeps of the attention lines (R154) and of the unfitted bays (R39, R149): the two laws, and the rule of each
plain operation for them. -/

namespace Sys2Proof.Machine

/-- From `s` to `t` both laws are kept: neither half asks for the other. -/
structure LawsKept (s t : State) : Prop where
  lines : LineLaw s → LineLaw t
  unfitted : UnfittedLaw s → UnfittedLaw t

/-- The parts of the state that the two laws read. -/
def lawView (s : State) :
    PerBay Bool × MasterState × PerBay MasterState × PerBay StepRing × PerBay Bsq × PerBay OutcomeRing :=
  (s.fitted, s.supervisor, s.panels, s.srs, s.bsq, s.oau)

/-- A bay whose sequencer is not ABSENT is fitted (R39). -/
theorem UnfittedLaw.fitted_of_state {s : State} {b : Bay} (h : UnfittedLaw s) (hs : (s.bsq.get b).state ≠ .absent) :
    s.fitted.get b = true := by
  by_contra hf
  exact hs (h b (by simpa using hf)).1

/-- What stays within a fitted bay reaches no unfitted one. -/
theorem UnfittedLaw.of_bay {s t : State} {b : Bay} (h : UnfittedLaw s) (hframe : BayFrame b s t)
    (hb : s.fitted.get b = true) : UnfittedLaw t := by
  intro c hc
  rw [hframe.fitted] at hc
  have hne : c ≠ b := by rintro rfl; simp [hb] at hc
  rw [hframe.bsq c hne, hframe.panels c hne, hframe.srs c hne, hframe.oau c hne]
  exact h c hc

/-- Something done for every bay in turn preserves what it preserves for each. -/
theorem forBays_preserves {p : State → Prop} {f : Bay → State → State} (h : ∀ b s, p s → p (f b s)) {s : State}
    (hs : p s) : p (forBays f s) :=
  h .b3 _ (h .b2 _ (h .b1 _ (h .b0 _ hs)))

namespace LawsKept

variable {s t u : State}

theorem refl (s : State) : LawsKept s s := ⟨id, id⟩

theorem trans (h : LawsKept s t) (k : LawsKept t u) : LawsKept s u :=
  ⟨fun hs => k.lines (h.lines hs), fun hs => k.unfitted (h.unfitted hs)⟩

theorem ite {p : Prop} [Decidable p] (h : p → LawsKept s t) (k : ¬ p → LawsKept s u) :
    LawsKept s (if p then t else u) := by
  split
  · exact h ‹_›
  · exact k ‹_›

/-- An operation that leaves masters, straps, rings and sequencers keeps both laws. -/
theorem of_view (h : lawView t = lawView s) : LawsKept s t := by
  simp only [lawView, Prod.mk.injEq] at h
  obtain ⟨hfitted, hsupervisor, hpanels, hsrs, hbsq, houtcomes⟩ := h
  constructor <;> intro hs
  · rwa [LineLaw, hsupervisor, hpanels]
  · rwa [UnfittedLaw, hfitted, hpanels, hsrs, hbsq, houtcomes]

/-- What keeps the laws keeps them from any state of the same view. -/
theorem after_view (k : LawsKept t u) (h : lawView t = lawView s) : LawsKept s u := (of_view h).trans k

/-- An operation on one bay keeps both laws if it keeps the lines and the bay is a fitted one. -/
theorem of_bay {b : Bay} (hframe : BayFrame b s t) (hlines : LineLaw s → LineLaw t)
    (hb : UnfittedLaw s → s.fitted.get b = true) : LawsKept s t :=
  ⟨hlines, fun hs => hs.of_bay hframe (hb hs)⟩

/-- Something done for every bay in turn keeps the laws that it keeps for each. -/
theorem forBays {f : Bay → State → State} (h : ∀ b s, LawsKept s (f b s)) (s : State) :
    LawsKept s (Machine.forBays f s) :=
  forBays_preserves (p := LawsKept s) (fun b t hst => hst.trans (h b t)) (refl s)

end LawsKept

/-! ### Events and masters (R149 to R154) -/

/-- A line that has just been driven follows (R154). -/
theorem redriveLine_follows (m : MasterState) : LineFollows (redriveLine m) := by
  simp [LineFollows, redriveLine]

theorem setMaster_lineLaw {m : Master} {x : MasterState} {s : State} (h : LineLaw s)
    (hx : LineFollows (masterState m s) → LineFollows x) : LineLaw (setMaster m x s) := by
  cases m with
  | supervisor => exact ⟨hx h.1, h.2⟩
  | panel b =>
    refine ⟨h.1, fun c => ?_⟩
    by_cases hc : c = b
    · subst hc
      simpa [setMaster] using hx (h.2 c)
    · simpa [setMaster, hc] using h.2 c

theorem setMaster_unfittedLaw {m : Master} (x : MasterState) {s : State} (h : UnfittedLaw s)
    (hm : masterFitted m s = true) : UnfittedLaw (setMaster m x s) := by
  cases m with
  | supervisor => exact h
  | panel b =>
    refine h.of_bay (b := b) ?_ hm
    constructor <;> intros <;> simp [setMaster, *]

/-- What is held for a fitted master may be replaced, if its line goes on following (R154). -/
theorem setMaster_lawsKept {m : Master} {x : MasterState} {s : State}
    (hx : LineFollows (masterState m s) → LineFollows x) (hm : UnfittedLaw s → masterFitted m s = true) :
    LawsKept s (setMaster m x s) :=
  ⟨fun h => setMaster_lineLaw h hx, fun h => setMaster_unfittedLaw x h (hm h)⟩

theorem raiseSup_lawsKept (e : SupEvent) (s : State) : LawsKept s (raiseSup e s) :=
  setMaster_lawsKept (m := .supervisor) (fun _ => redriveLine_follows _) fun _ => rfl

theorem raisePanel_lineLaw {s : State} (b : Bay) (e : PanelEvent) (h : LineLaw s) : LineLaw (raisePanel b e s) := by
  unfold raisePanel
  split
  · exact setMaster_lineLaw (m := .panel b) h fun _ => redriveLine_follows _
  · exact h

end Sys2Proof.Machine
end

section
/-! EVENTS_CLEAR and EVENTS_MASK (R152, R153): both pass the common checks of every fitted master. -/

namespace Sys2Proof.Machine

theorem exec_eventsClear_fitted {m : Master} {s : State} (noise : Bool) (named : Half) (hA : Awake s)
    (hm : masterFitted m s = true) :
    exec (.eventsClear m noise named) s =
      .next (respond m 0x05#8 noise (ownerEventsClear m named (heard m s)).2 (ownerEventsClear m named (heard m s)).1) :=
  congrArg Host.Outcome.next (takeRequest_passes (r := .eventsClear named) noise hA
    ⟨hm, by cases m <;> rfl, rfl, rfl, fun _ hb => nomatch hb⟩)

theorem exec_eventsMask_fitted {m : Master} {s : State} (noise : Bool) (named : Half) (hA : Awake s)
    (hm : masterFitted m s = true) :
    exec (.eventsMask m noise named) s =
      .next (respond m 0x06#8 noise (ownerEventsMask m named (heard m s)).2 (ownerEventsMask m named (heard m s)).1) :=
  congrArg Host.Outcome.next (takeRequest_passes (r := .eventsMask named) noise hA
    ⟨hm, by cases m <;> rfl, rfl, rfl, fun _ hb => nomatch hb⟩)

/-- Settles O30: the owner's new record of its sender is the one that the line law drives. -/
theorem eventRequestsActOnTheirSender : Obligations.EventRequestsActOnTheirSender := by
  intro m noise named s hA hm h x latched owned left mask
  have hlatched : latchedSet m = latched := by cases m <;> rfl
  have howned : eventSet m = owned := by cases m <;> rfl
  rw [exec_eventsClear_fitted noise named hA hm, exec_eventsMask_fitted noise named hA hm]
  constructor
  · simp [ownerEventsClear, clearBits, redriveLine, ackWith, hlatched, h, x, left]
  · simp [ownerEventsMask, setMask, redriveLine, ackWith, howned, h, x, mask]

end Sys2Proof.Machine
end

section
/-! The line law along the sequencer's operations: each raises the events of its bay and drives the line anew. -/

namespace Sys2Proof.Machine

variable {s : State}

/-! ### Operations that raise nothing -/

theorem setBsq_lineLaw (b : Bay) (q : Bsq) (h : LineLaw s) : LineLaw (setBsq b q s) := h
theorem setRing_lineLaw (b : Bay) (r : StepRing) (h : LineLaw s) : LineLaw (setRing b r s) := h
theorem setOutcomes_lineLaw (b : Bay) (o : OutcomeRing) (h : LineLaw s) : LineLaw (setOutcomes b o s) := h
theorem setOutputs_lineLaw (b : Bay) (o : BayOutputs) (h : LineLaw s) : LineLaw (setOutputs b o s) := h
theorem setContext_lineLaw (b : Bay) (c : Option Context) (h : LineLaw s) : LineLaw (setContext b c s) := h
theorem removeHead_lineLaw (b : Bay) (n : Nat) (h : LineLaw s) : LineLaw (removeHead b n s) := h
theorem removeStep_lineLaw (b : Bay) (h : LineLaw s) : LineLaw (removeStep b s) := h
theorem withdrawAux_lineLaw (b : Bay) (h : LineLaw s) : LineLaw (withdrawAux b s) := h
theorem formDemand_lineLaw (b : Bay) (h : LineLaw s) : LineLaw (formDemand b s) := h
theorem driveBay_lineLaw (b : Bay) (h : LineLaw s) : LineLaw (driveBay b s) := h

/-! ### Outcomes and hold reasons -/

theorem postOutcome_lineLaw (b : Bay) (role : PostRole) (rec : Outcome) (h : LineLaw s) :
    LineLaw (postOutcome b role rec s) := by
  unfold postOutcome
  dsimp only
  split
  · exact raisePanel_lineLaw b _ (setOutcomes_lineLaw b _ h)
  · exact setOutcomes_lineLaw b _ h

theorem changeHolds_lineLaw (b : Bay) (holds : HoldSet) (h : LineLaw s) : LineLaw (changeHolds b holds s) := by
  unfold changeHolds
  dsimp only
  split
  · exact h
  have hset (q : Bsq) := raisePanel_lineLaw b .holdChange (setBsq_lineLaw b q h)
  split
  · split
    · exact hset _
    · exact driveBay_lineLaw b (withdrawAux_lineLaw b (raisePanel_lineLaw b .stateChange (hset _)))
  · split
    · exact driveBay_lineLaw b (raisePanel_lineLaw b .stateChange (hset _))
    · exact hset _
  · exact h

theorem emptyHolds_lineLaw (b : Bay) (h : LineLaw s) : LineLaw (emptyHolds b s) := by
  unfold emptyHolds
  split
  · exact h
  · exact raisePanel_lineLaw b _ (setBsq_lineLaw b _ h)

/-! ### Steps -/

theorem promiseStep_lineLaw (b : Bay) (x : Context) (h : LineLaw s) : LineLaw (promiseStep b x s) := by
  unfold promiseStep
  split
  · exact setOutcomes_lineLaw b _ h
  · exact h

theorem settleStart_lineLaw (b : Bay) (x : Context) (holds : HoldSet) (h : LineLaw s) :
    LineLaw (settleStart b x holds s) := by
  have hstate (q : Bsq) := raisePanel_lineLaw b .stateChange (setBsq_lineLaw b q h)
  refine driveBay_lineLaw b ?_
  split
  · exact hstate _
  · exact raisePanel_lineLaw b .holdChange (hstate _)

theorem startStep_lineLaw (b : Bay) (h : LineLaw s) : LineLaw (startStep b s) := by
  unfold startStep
  split
  · split
    · exact settleStart_lineLaw b _ _ (promiseStep_lineLaw b _ h)
    · exact h
  · exact h

theorem enterStep_lineLaw (b : Bay) (index : Nat) (h : LineLaw s) : LineLaw (enterStep b index s) := by
  unfold enterStep
  split
  next x _ =>
    have hstate (c : Option Context) := raisePanel_lineLaw b .stateChange (setContext_lineLaw b c h)
    dsimp only
    split
    · exact driveBay_lineLaw b (setBsq_lineLaw b _ (hstate _))
    · exact startStep_lineLaw b (hstate _)
  next => exact h

theorem becomeIdle_lineLaw (b : Bay) (h : LineLaw s) : LineLaw (becomeIdle b s) :=
  driveBay_lineLaw b (raisePanel_lineLaw b .stateChange (setBsq_lineLaw b _ h))

/-! ### Parks -/

theorem enterParking_lineLaw (b : Bay) (result : ParkResult) (h : LineLaw s) :
    LineLaw (enterParking b result s) := by
  unfold enterParking
  dsimp only
  split
  · exact driveBay_lineLaw b <| withdrawAux_lineLaw b <| raisePanel_lineLaw b .stateChange <|
      setOutcomes_lineLaw b _ <| setBsq_lineLaw b _ <| emptyHolds_lineLaw b h
  · exact h

theorem closeProgram_lineLaw (b : Bay) (h : LineLaw s) : LineLaw (closeProgram b s) := by
  unfold closeProgram
  split
  · split
    · exact setRing_lineLaw b _ (removeHead_lineLaw b _ (postOutcome_lineLaw b _ _ h))
    · exact h
  · exact h

end Sys2Proof.Machine
end

section
/-! The two laws along the operations that reach beyond a bay: hold reasons, the boiler, admission, and the end of a step or a
park. -/

namespace Sys2Proof.Machine

/-! ### Hold reasons (R46) -/

/-- A hold-reason set changes in RUNNING and HELD alone, so in no unfitted bay. -/
theorem changeHolds_lawsKept (b : Bay) (holds : HoldSet) (s : State) : LawsKept s (changeHolds b holds s) := by
  by_cases hs : (s.bsq.get b).state = .absent
  · rcases changeHolds_cases b holds s with
      hsame | ⟨x, -, hrun, -⟩ | ⟨x, -, hheld, -⟩ | ⟨-, ⟨hrun, -⟩ | ⟨hheld, -⟩⟩
    · rw [hsame]
      exact .refl s
    · cases hs.symm.trans hrun
    · cases hs.symm.trans hheld
    · cases hs.symm.trans hrun
    · cases hs.symm.trans hheld
  · exact .of_bay (changeHolds_frame b holds s) (changeHolds_lineLaw b holds) fun h => h.fitted_of_state hs

theorem reholdFront_lawsKept (b : Bay) (s : State) : LawsKept s (reholdFront b s) := by
  unfold reholdFront
  split
  · exact changeHolds_lawsKept b _ s
  · exact .refl s

theorem reholdSteam_lawsKept (b : Bay) (s : State) : LawsKept s (reholdSteam b s) := by
  unfold reholdSteam
  split
  · exact changeHolds_lawsKept b _ s
  · exact .refl s

theorem reholdPower_lawsKept (b : Bay) (s : State) : LawsKept s (reholdPower b s) := by
  unfold reholdPower
  split
  · exact changeHolds_lawsKept b _ s
  · exact .refl s

theorem reholdTank_lawsKept (b : Bay) (s : State) : LawsKept s (reholdTank b s) := by
  unfold reholdTank
  split
  · exact changeHolds_lawsKept b _ s
  · exact .refl s

theorem reholdStandby_lawsKept (b : Bay) (s : State) : LawsKept s (reholdStandby b s) := by
  unfold reholdStandby
  split
  · exact changeHolds_lawsKept b _ s
  · exact .refl s

theorem driveValve_lawsKept (b : Bay) (s : State) : LawsKept s (driveValve b s) := .of_view rfl

theorem forceCompressorOff_lawsKept (s : State) : LawsKept s (forceCompressorOff s) :=
  .ite (fun _ => (LawsKept.forBays reholdPower_lawsKept _).after_view rfl) fun _ => .refl s

/-! ### The boiler (chapter 5) -/

theorem boilerMoved_lawsKept (next : BoilerState) (s : State) : LawsKept s (boilerMoved next s) := by
  unfold boilerMoved
  dsimp only
  split
  · exact (raiseSup_lawsKept _ _).after_view rfl
  · exact (raiseSup_lawsKept _ _).after_view rfl

theorem toBoiler_lawsKept (next : BoilerState) (s : State) : LawsKept s (toBoiler next s) := by
  by_cases h : s.blc.state = next
  · rw [toBoiler, if_pos h]
    exact .refl s
  · rw [toBoiler_of_ne h]
    exact ((boilerMoved_lawsKept next s).trans (.forBays reholdSteam_lawsKept _)).trans
      (.forBays driveValve_lawsKept _)

theorem towardsFill_lawsKept (s : State) : LawsKept s (towardsFill s) :=
  .ite (fun _ => toBoiler_lawsKept _ s) fun _ => toBoiler_lawsKept _ s

theorem enterHeat_lawsKept (s : State) : LawsKept s (enterHeat s) :=
  .ite (fun _ => (toBoiler_lawsKept _ s).trans (toBoiler_lawsKept _ _)) fun _ => toBoiler_lawsKept _ s

theorem examineStart_lawsKept (s : State) : LawsKept s (examineStart s) :=
  examineStart_keeps (fun next t h => h.trans (toBoiler_lawsKept next t)) (.refl s)

theorem examineSteam_lawsKept (s : State) : LawsKept s (examineSteam s) :=
  .ite (fun _ => (examineStart_lawsKept _).after_view rfl) fun _ => .refl s

theorem lockBoiler_lawsKept (cause : LockCause) (s : State) : LawsKept s (lockBoiler cause s) :=
  .ite (fun _ => .refl s) fun _ => (toBoiler_lawsKept _ _).after_view rfl

theorem refill_lawsKept (s : State) : LawsKept s (refill s) :=
  .ite (fun _ => towardsFill_lawsKept s) fun _ => .refl s

theorem coolBoiler_lawsKept (s : State) : LawsKept s (coolBoiler s) :=
  .ite (fun _ => .refl s) fun _ => toBoiler_lawsKept _ s

/-! ### Admission (R33 to R35) -/

/-- An examination acts on an IDLE bay alone, so on no unfitted one. -/
theorem fitted_of_admissible {b : Bay} {s : State} (ha : admissible b s = true) (h : UnfittedLaw s) :
    s.fitted.get b = true := by
  refine h.fitted_of_state fun hs => ?_
  simp [admissible, hs] at ha

theorem rejectProgram_lawsKept {b : Bay} {s : State} (steps index : Nat) (reason : RejectReason) (tag : Byte)
    (hb : UnfittedLaw s → s.fitted.get b = true) : LawsKept s (rejectProgram b steps index reason tag s) :=
  .of_bay (rejectProgram_frame b steps index reason tag s)
    (fun h => removeHead_lineLaw b _ (postOutcome_lineLaw b _ _ h)) hb

theorem acceptProgram_lawsKept {b : Bay} {s : State} (program : List StepRecord)
    (hb : UnfittedLaw s → s.fitted.get b = true) : LawsKept s (acceptProgram b program s) := by
  unfold acceptProgram
  refine LawsKept.trans (.of_bay (b := b) (BayFrame.trans ?frame (enterStep_frame b 0 _))
    (fun h => enterStep_lineLaw b 0 ?lines) hb) (examineSteam_lawsKept _)
  case frame => exact ((setOutcomes_frame b _ s).trans (setRing_frame b _ _)).trans (setBsq_frame b _ _)
  case lines => exact setBsq_lineLaw b _ (setRing_lineLaw b _ (setOutcomes_lineLaw b _ h))

theorem admitPrograms_lawsKept (n : Nat) (b : Bay) (s : State) : LawsKept s (admitPrograms n b s) := by
  induction n generalizing s with
  | zero => exact .refl s
  | succ n ih =>
    unfold admitPrograms
    refine LawsKept.ite (fun ha => ?_) fun _ => .refl s
    split
    · split
      · exact (rejectProgram_lawsKept _ _ _ _ (fitted_of_admissible ha)).trans (ih _)
      · exact acceptProgram_lawsKept _ (fitted_of_admissible ha)
    · exact .refl s

theorem examineAdmission_lawsKept (b : Bay) (s : State) : LawsKept s (examineAdmission b s) :=
  admitPrograms_lawsKept _ b s

/-! ### The end of a step (R59) and of a park (R68 to R71) -/

theorem endStep_lineLaw {s : State} (b : Bay) (result : Result) (h : LineLaw s) : LineLaw (endStep b result s) := by
  have h0 := withdrawAux_lineLaw b h
  unfold endStep
  split
  · dsimp only
    split
    · exact (examineAdmission_lawsKept b _).lines
        (becomeIdle_lineLaw b (removeStep_lineLaw b (postOutcome_lineLaw b _ _ h0)))
    · refine enterStep_lineLaw b _ (removeStep_lineLaw b ?_)
      split
      · exact postOutcome_lineLaw b _ _ h0
      · exact h0
  · exact h

theorem endStep_unfittedLaw {b : Bay} {s : State} (result : Result) (hb : s.fitted.get b = true)
    (h : UnfittedLaw s) : UnfittedLaw (endStep b result s) := by
  have h0 := withdrawAux_frame b s
  unfold endStep
  split
  · dsimp only
    split
    · refine (examineAdmission_lawsKept b _).unfitted (h.of_bay ?_ hb)
      exact ((h0.trans (postOutcome_frame b _ _ _)).trans (removeStep_frame b _)).trans (becomeIdle_frame b _)
    · refine h.of_bay (BayFrame.trans (BayFrame.trans ?_ (removeStep_frame b _)) (enterStep_frame b _ _)) hb
      exact BayFrame.ite (fun _ => h0.trans (postOutcome_frame b _ _ _)) fun _ => h0
  · exact h

theorem endStep_lawsKept {b : Bay} {s : State} (result : Result) (hb : UnfittedLaw s → s.fitted.get b = true) :
    LawsKept s (endStep b result s) :=
  ⟨endStep_lineLaw b result, fun h => endStep_unfittedLaw result (hb h) h⟩

theorem enterParking_lawsKept (b : Bay) (result : ParkResult) (s : State) :
    LawsKept s (enterParking b result s) := by
  by_cases hs : (s.bsq.get b).state = .absent
  · rw [enterParking_else b result s (by simp [inProgress, hs])]
    exact .refl s
  · exact .of_bay (enterParking_frame b result s) (enterParking_lineLaw b result) fun h => h.fitted_of_state hs

theorem endPark_lawsKept {b : Bay} {s : State} (hb : UnfittedLaw s → s.fitted.get b = true) :
    LawsKept s (endPark b s) := by
  unfold endPark
  dsimp only
  have hended : LawsKept s (driveBay b (raisePanel b .stateChange (setBsq b
      { (closeProgram b s).bsq.get b with
        state := if ((closeProgram b s).bsq.get b).faultAfterPark then .faulted else .idle
        context := none, parkTimer := 0, parkMinTaken := false, faultAfterPark := false } (closeProgram b s)))) :=
    .of_bay (b := b) (((closeProgram_frame b s).trans (setBsq_frame b _ _)).trans
        ((raisePanel_frame b .stateChange _).trans (driveBay_frame b _)))
      (fun h => driveBay_lineLaw b <| raisePanel_lineLaw b .stateChange <| setBsq_lineLaw b _ <|
        closeProgram_lineLaw b h) hb
  exact .ite (fun _ => hended) fun _ => hended.trans (examineAdmission_lawsKept b _)

/-- A bay that parks is marked; any other that is in progress is sent to PARKING (R67). -/
theorem baySensorFault_lawsKept (b : Bay) (s : State) : LawsKept s (baySensorFault b s) := by
  unfold baySensorFault
  split
  next hs => exact .of_bay (setBsq_frame b _ s) (setBsq_lineLaw b _) fun h => h.fitted_of_state (by simp [hs])
  next => exact enterParking_lawsKept b .faulted s

end Sys2Proof.Machine
end

section
/-! The two laws along the requests: what each owner does, a warm restart, and the acceptance of a frame (R173 to R175). -/

namespace Sys2Proof.Machine

/-! ### OAU and SRS -/

theorem dropOutcomeReady_lawsKept {b : Bay} {s : State} (hb : s.fitted.get b = true) :
    LawsKept s (dropOutcomeReady b s) :=
  setMaster_lawsKept (m := .panel b) (fun _ => redriveLine_follows _) fun _ => hb

theorem ownerEventsClear_lawsKept {m : Master} {s : State} (events : Half) (hm : masterFitted m s = true) :
    LawsKept s (ownerEventsClear m events s).1 :=
  setMaster_lawsKept (fun _ => redriveLine_follows _) fun _ => hm

theorem ownerEventsMask_lawsKept {m : Master} {s : State} (mask : Half) (hm : masterFitted m s = true) :
    LawsKept s (ownerEventsMask m mask s).1 :=
  setMaster_lawsKept (fun _ => redriveLine_follows _) fun _ => hm

section
variable {b : Bay} {s : State}

theorem setRing_lawsKept (r : StepRing) (hb : s.fitted.get b = true) : LawsKept s (setRing b r s) :=
  .of_bay (setRing_frame b r s) (setRing_lineLaw b r) fun _ => hb

theorem setOutcomes_lawsKept (o : OutcomeRing) (hb : s.fitted.get b = true) : LawsKept s (setOutcomes b o s) :=
  .of_bay (setOutcomes_frame b o s) (setOutcomes_lineLaw b o) fun _ => hb

theorem setContext_lawsKept (c : Option Context) (hb : UnfittedLaw s → s.fitted.get b = true) :
    LawsKept s (setContext b c s) :=
  .of_bay (setContext_frame b c s) (setContext_lineLaw b c) hb

theorem ownerStepAppend_lawsKept (expected : Byte) (records : List StepRecord) (hb : s.fitted.get b = true) :
    LawsKept s (ownerStepAppend b expected records s).1 := by
  unfold ownerStepAppend
  dsimp only
  split
  · exact .refl s
  split
  · exact .refl s
  split
  · exact .refl s
  split
  · exact .refl s
  · exact .ite (fun _ => (setRing_lawsKept _ hb).trans (examineAdmission_lawsKept b _)) fun _ => setRing_lawsKept _ hb

theorem ownerQueueCancel_lawsKept (hb : s.fitted.get b = true) : LawsKept s (ownerQueueCancel b s).1 := by
  unfold ownerQueueCancel
  dsimp only
  split
  · exact .refl s
  split
  · exact .refl s
  · exact .of_bay ((setRing_frame b _ s).trans (postOutcome_frame b _ _ _))
      (fun h => postOutcome_lineLaw b _ _ (setRing_lineLaw b _ h)) fun _ => hb

theorem afterFree_lawsKept (hb : s.fitted.get b = true) : LawsKept s (afterFree b s) := by
  unfold afterFree
  split
  · exact .ite (fun _ => .of_bay (startStep_frame b s) (startStep_lineLaw b) fun _ => hb) fun _ => .refl s
  · exact examineAdmission_lawsKept b s
  · exact .refl s

theorem ownerOutcomeFree_lawsKept (freed : Byte) (hb : s.fitted.get b = true) :
    LawsKept s (ownerOutcomeFree b freed s).1 := by
  unfold ownerOutcomeFree
  dsimp only
  split
  · exact .refl s
  split
  · exact .refl s
  · have hfreed (o : OutcomeRing) := setOutcomes_lawsKept o hb
    split
    · exact ((hfreed _).trans (dropOutcomeReady_lawsKept hb)).trans (afterFree_lawsKept hb)
    · exact (hfreed _).trans (afterFree_lawsKept hb)

/-! ### BSQ -/

theorem setPaused_lawsKept (paused : Bool) (hb : s.fitted.get b = true) : LawsKept s (setPaused b paused s) := by
  unfold setPaused
  split
  · have hpaused (c : Option Context) := setContext_lawsKept c fun _ => hb
    dsimp only
    split
    · exact hpaused _
    · exact (hpaused _).trans (changeHolds_lawsKept b _ _)
  · exact .refl s

theorem ownerProgramAbort_lawsKept (number : Byte) : LawsKept s (ownerProgramAbort b number s).1 := by
  unfold ownerProgramAbort
  split
  · exact enterParking_lawsKept b .aborted s
  · exact .refl s
  · exact .refl s

theorem ownerBayPause_lawsKept (number : Byte) (hb : s.fitted.get b = true) :
    LawsKept s (ownerBayPause b number s).1 := by
  unfold ownerBayPause
  split
  · exact setPaused_lawsKept true hb
  · exact .refl s
  · exact .refl s

theorem ownerBayResume_lawsKept (number : Byte) (hb : s.fitted.get b = true) :
    LawsKept s (ownerBayResume b number s).1 := by
  unfold ownerBayResume
  split
  · exact setPaused_lawsKept false hb
  · exact .refl s
  · exact .refl s

theorem ownerBayClear_lawsKept (hb : s.fitted.get b = true) : LawsKept s (ownerBayClear b s).1 := by
  unfold ownerBayClear
  split
  · exact LawsKept.trans
      (.of_bay (((setBsq_frame b _ s).trans (raisePanel_frame b _ _)).trans (driveBay_frame b _))
        (fun h => driveBay_lineLaw b (raisePanel_lineLaw b .stateChange (setBsq_lineLaw b _ h))) fun _ => hb)
      (examineAdmission_lawsKept b _)
  · exact .refl s

end

/-! ### BLC and PTS -/

section
variable (s : State)

theorem ownerBoilerClear_lawsKept : LawsKept s (ownerBoilerClear s).1 := by
  unfold ownerBoilerClear
  split
  · exact ((toBoiler_lawsKept _ _).trans (examineStart_lawsKept _)).after_view rfl
  · exact .refl s

theorem ownerProfileWrite_lawsKept (slot state : Byte) (v : ProfileValues) :
    LawsKept s (ownerProfileWrite slot state v s).1 := by
  unfold ownerProfileWrite
  split
  · exact .of_view rfl
  split
  · exact .of_view rfl
  · exact .refl s

theorem ownerProfileCommit_lawsKept : LawsKept s (ownerProfileCommit s).1 := by
  unfold ownerProfileCommit
  split
  · exact .of_view rfl
  · exact .refl s

/-! ### MOC: modes -/

theorem enterStandby_lawsKept : LawsKept s (enterStandby s) :=
  (((LawsKept.forBays reholdStandby_lawsKept _).trans (coolBoiler_lawsKept _)).trans
    (forceCompressorOff_lawsKept _)).after_view rfl

theorem enterRun_lawsKept : LawsKept s (enterRun s) :=
  (((LawsKept.forBays reholdStandby_lawsKept _).trans (examineSteam_lawsKept _)).trans
    (.forBays examineAdmission_lawsKept _)).after_view rfl

theorem enterSleep_lawsKept : LawsKept s (enterSleep s) := by
  refine .of_view ?_
  unfold enterSleep
  dsimp only
  split <;> rfl

theorem ownerPlantMode_lawsKept (mode : Byte) : LawsKept s (ownerPlantMode mode s).1 := by
  unfold ownerPlantMode
  split
  · exact .ite (fun _ => enterRun_lawsKept s) fun _ => .refl s
  split
  · exact .ite (fun _ => enterStandby_lawsKept s) fun _ => .refl s
  split
  · unfold ownerPlantModeSleep
    split
    · exact enterSleep_lawsKept s
    · exact .refl s
  · exact .refl s

/-! ### MOC: warm restart (R187) -/

theorem restartBay_frame (b : Bay) : BayFrame b s (restartBay b s) := by
  have hrings (r : StepRing) (o : OutcomeRing) (x : BayOutputs) (q : Bsq) :=
    (((setRing_frame b r s).trans (setOutcomes_frame b o _)).trans (setOutputs_frame b x _)).trans (setBsq_frame b q _)
  exact BayFrame.ite
    (fun _ => ((hrings _ _ _ _).trans (withdrawAux_frame b _)).trans (driveBay_frame b _))
    fun _ => ((hrings _ _ _ _).trans (withdrawAux_frame b _)).trans (formDemand_frame b _)

/-- A restart raises no event at a bay. -/
theorem restartBay_lineLaw (b : Bay) (h : LineLaw s) : LineLaw (restartBay b s) := by
  have hrings (r : StepRing) (o : OutcomeRing) (x : BayOutputs) (q : Bsq) :=
    setBsq_lineLaw b q (setOutputs_lineLaw b x (setOutcomes_lineLaw b o (setRing_lineLaw b r h)))
  unfold restartBay
  dsimp only
  split
  · exact driveBay_lineLaw b (withdrawAux_lineLaw b (hrings _ _ _ _))
  · exact formDemand_lineLaw b (withdrawAux_lineLaw b (hrings _ _ _ _))

/-- A restart finds the rings of an unfitted bay empty, and its sequencer out of any program. -/
theorem restartBay_unfittedLaw (b : Bay) (h : UnfittedLaw s) : UnfittedLaw (restartBay b s) := by
  by_cases hb : s.fitted.get b = true
  · exact h.of_bay (restartBay_frame s b) hb
  have habsent : (s.bsq.get b).state = .absent := (h b (by simpa using hb)).1
  have hp : inProgress (s.bsq.get b) = false := by simp [inProgress, habsent]
  intro c hc
  rw [(restartBay_frame s b).fitted] at hc
  by_cases hcb : c = b
  · subst hcb
    obtain ⟨hstate, hpending, hmask, hline, hpresent, -, -⟩ := h c hc
    simp [restartBay, hp, hstate, hpending, hmask, hline, hpresent]
  · simpa [restartBay, hp, hcb] using h c hc

theorem restartBay_lawsKept (b : Bay) : LawsKept s (restartBay b s) :=
  ⟨restartBay_lineLaw s b, restartBay_unfittedLaw s b⟩

theorem restartBlc_lawsKept : LawsKept s (restartBlc s) := by
  have hcold : LawsKept s (coolBoiler { s with moc := { s.moc with pumpMode := .auto } }) :=
    (coolBoiler_lawsKept _).after_view rfl
  unfold restartBlc
  dsimp only
  generalize coolBoiler _ = t at hcold
  exact hcold.trans (.of_view rfl)

/-- RESTARTED is raised at the masters of the fitted bays alone (R150). -/
theorem restartEvents_lawsKept : LawsKept s (restartEvents s) := by
  constructor
  · refine fun h => ⟨redriveLine_follows _, fun b => ?_⟩
    simp only [restartEvents, PerBay.get_ofFn]
    split
    · exact redriveLine_follows _
    · exact h.2 b
  · intro h b hb
    have hfit : s.fitted.get b = false := hb
    simpa [restartEvents, hfit] using h b hfit

theorem restartPae_lawsKept : LawsKept s (restartPae s) := .of_view rfl

theorem restartPlant_lawsKept : LawsKept s (restartPlant s) := by
  have hplant : LawsKept s (restartBlc (restartPae (forBays restartBay s))) :=
    ((LawsKept.forBays (fun b t => restartBay_lawsKept t b) s).trans (restartPae_lawsKept _)).trans
      (restartBlc_lawsKept _)
  unfold restartPlant
  dsimp only
  generalize restartBlc _ = t at hplant
  exact hplant.trans ((restartEvents_lawsKept _).after_view rfl)

/-! ### MOC: service (R188, R189) -/

theorem ownerService_lawsKept (index value : Byte) (o : OutputId) : LawsKept s (ownerService index value o s).1 := by
  cases o with
  | fan | damper | osc | pump =>
    unfold ownerService
    dsimp only
    split
    · exact .of_view rfl
    · exact .refl s

theorem afterService_lawsKept (b : Bay) : LawsKept s (afterService b s) :=
  .ite (fun _ => examineAdmission_lawsKept b s) fun _ => .refl s

theorem pumpToAuto_lawsKept : LawsKept s (pumpToAuto s) :=
  ((examineStart_lawsKept _).trans (refill_lawsKept _)).after_view rfl

theorem serviceToAuto_lawsKept (o : OutputId) : LawsKept s (serviceToAuto o s) := by
  cases o with
  | fan | damper | osc => exact .ite (fun _ => (afterService_lawsKept _ _).after_view rfl) fun _ => .refl s
  | pump => exact .ite (fun _ => pumpToAuto_lawsKept s) fun _ => .refl s

theorem ownerOutputService_lawsKept (index mode value : Byte) :
    LawsKept s (ownerOutputService index mode value s).1 := by
  unfold ownerOutputService
  split
  · exact .refl s
  next o _ =>
    split
    · exact serviceToAuto_lawsKept s o
    split
    · exact ownerService_lawsKept s index value o
    · exact .refl s

end

/-! ### Handing a request to its owner -/

theorem forBay_lawsKept {bay : Byte} {s : State} {f : Bay → State → State × Reply}
    (hb : ∀ b, bayOf bay = some b → s.fitted.get b = true)
    (hf : ∀ b, s.fitted.get b = true → LawsKept s (f b s).1) : LawsKept s (forBay bay f s).1 := by
  unfold forBay
  split
  next b hbay => exact hf b (hb b hbay)
  next => exact .refl s

/-- A request from a fitted master, on a fitted bay where it names one. -/
theorem perform_lawsKept {m : Master} {r : Request} {s : State} (hm : masterFitted m s = true)
    (hb : ∀ b, bayNamed r = some b → s.fitted.get b = true) : LawsKept s (perform m r s).1 := by
  cases r with
  | ping | statusPlant _ | eventsRead | profileRead _ => exact .refl s
  | statusBay bay part => exact forBay_lawsKept hb fun _ _ => .refl s
  | outcomeRead bay => exact forBay_lawsKept hb fun _ _ => .refl s
  | eventsClear events => exact ownerEventsClear_lawsKept events hm
  | eventsMask mask => exact ownerEventsMask_lawsKept mask hm
  | stepAppend bay p records => exact forBay_lawsKept hb fun _ => ownerStepAppend_lawsKept p records
  | queueCancel bay => exact forBay_lawsKept hb fun _ => ownerQueueCancel_lawsKept
  | outcomeFree bay freed => exact forBay_lawsKept hb fun _ => ownerOutcomeFree_lawsKept freed
  | bayPause bay n => exact forBay_lawsKept hb fun _ => ownerBayPause_lawsKept n
  | bayResume bay n => exact forBay_lawsKept hb fun _ => ownerBayResume_lawsKept n
  | programAbort bay n => exact forBay_lawsKept hb fun _ _ => ownerProgramAbort_lawsKept n
  | bayClear bay => exact forBay_lawsKept hb fun _ => ownerBayClear_lawsKept
  | budgetSet v => exact .of_view rfl
  | profileWrite slot state v => exact ownerProfileWrite_lawsKept s slot state v
  | profileCommit => exact ownerProfileCommit_lawsKept s
  | plantMode mode => exact ownerPlantMode_lawsKept s mode
  | warmRestart => exact restartPlant_lawsKept s
  | outputService o mode v => exact ownerOutputService_lawsKept s o mode v
  | boilerClear => exact ownerBoilerClear_lawsKept s

/-! ### Acceptance (R173 to R175) -/

theorem becomePresent_lawsKept {m : Master} {s : State} (hm : masterFitted m s = true) :
    LawsKept s (becomePresent m s) := by
  have hpresent : LawsKept s (setMaster m { masterState m s with present := true, window := 0 } s) :=
    setMaster_lawsKept id fun _ => hm
  refine .ite (fun _ => hpresent) fun _ => hpresent.trans ?_
  cases m with
  | supervisor => exact .of_view rfl
  | panel b => exact examineAdmission_lawsKept b _

theorem heard_lawsKept {m : Master} {s : State} (hm : masterFitted m s = true) : LawsKept s (heard m s) :=
  (becomePresent_lawsKept (s := endFrame s) hm).after_view rfl

theorem masterFitted_congr {s t : State} (m : Master) (h : t.fitted = s.fitted) :
    masterFitted m t = masterFitted m s := by
  unfold masterFitted
  rw [h]

/-- Check 6: a request that no common check refuses names no unfitted bay. -/
theorem fitted_of_not_refused {m : Master} {k : Option ReqKind} {r : Request} {s : State} {b : Bay}
    (h : commonRefusal m k (some r) s = none) (hb : bayNamed r = some b) : s.fitted.get b = true := by
  cases k with
  | none => simp [commonRefusal] at h
  | some k =>
    by_contra hf
    simp only [commonRefusal, hb, hf, if_false] at h
    split_ifs at h

theorem answerFrame_lawsKept {m : Master} {s : State} (kind : Byte) (k : Option ReqKind) (r : Option Request)
    (noise : Bool) (hm : masterFitted m s = true) : LawsKept s (answerFrame m kind k r noise s) := by
  unfold answerFrame
  split
  · exact .of_view rfl
  next r hrefusal =>
    exact (perform_lawsKept hm fun b => fitted_of_not_refused hrefusal).trans (.of_view rfl)
  · exact .refl s

theorem takeFrame_lawsKept (m : Master) (kind : Byte) (k : Option ReqKind) (r : Option Request) (noise : Bool)
    (s : State) : LawsKept s (takeFrame m kind k r noise s) := by
  refine .ite (fun _ => .ite (fun hm => ?_) fun _ => .of_view rfl) fun _ => .refl s
  exact (heard_lawsKept hm).trans (answerFrame_lawsKept kind k r noise
    ((masterFitted_congr m (heard_fitted m s)).trans hm))

theorem takeRequest_lawsKept (m : Master) (noise : Bool) (r : Request) (s : State) :
    LawsKept s (takeRequest m noise r s) := takeFrame_lawsKept m _ _ _ noise s

theorem acceptFrame_lawsKept (source kind : Byte) (payload : List Byte) (noise : Bool) (s : State) :
    LawsKept s (acceptFrame source kind payload noise s) := by
  unfold acceptFrame
  split
  · exact .ite (fun _ => .of_view rfl) fun _ => .refl s
  · exact takeFrame_lawsKept _ kind _ _ noise s

end Sys2Proof.Machine
end

section
/-! The two laws along the link's own commands, resets, rounds, samples and timers, and along a step. -/

namespace Sys2Proof.Machine

/-! ### Characters and responses (R170 to R180) -/

theorem linkFault_lawsKept (s : State) : LawsKept s (linkFault s) := raiseSup_lawsKept .linkFault s

theorem assemble_lawsKept (c : RxChar) (s : State) : LawsKept s (assemble c s) := by
  unfold assemble
  dsimp only
  split
  · exact .ite (fun _ => (acceptFrame_lawsKept _ _ _ _ _).after_view rfl)
      fun _ => (linkFault_lawsKept _).after_view rfl
  · exact .ite (fun _ => (linkFault_lawsKept _).after_view rfl) fun _ => .of_view rfl

theorem inTurnaround_lawsKept {c : RxChar} {retake : State → State} (h : ∀ t, LawsKept t (retake t)) (s : State) :
    LawsKept s (inTurnaround c retake s) :=
  .ite (fun _ => ((linkFault_lawsKept _).trans (h _)).after_view rfl) fun _ => .refl s

/-- A wake makes every master ABSENT and leaves its events (R186). -/
theorem wakePart_lawsKept (s : State) : LawsKept s (wakePart s) := by
  constructor
  · intro h
    refine ⟨h.1, fun b => ?_⟩
    simpa [wakePart, forgetMaster, LineFollows] using h.2 b
  · intro h b hb
    obtain ⟨hstate, hpending, hmask, hline, -, hrecords, houtcomes⟩ := h b hb
    simp [wakePart, forgetMaster, hstate, hpending, hmask, hline, hrecords, houtcomes]

theorem sleepChar_lawsKept (c : RxChar) (s : State) : LawsKept s (sleepChar c s) :=
  .ite (fun _ => wakePart_lawsKept s) fun _ => .refl s

theorem settlingChar_lawsKept (c : RxChar) (s : State) : LawsKept s (settlingChar c s) :=
  .ite (fun _ => .of_view rfl) fun _ => .ite (fun _ => .of_view rfl) fun _ => .refl s

theorem takeChar_lawsKept (c : RxChar) (s : State) : LawsKept s (takeChar c s) := by
  unfold takeChar
  split
  · exact .refl s
  · exact settlingChar_lawsKept c s
  · exact .ite (fun _ => inTurnaround_lawsKept (sleepChar_lawsKept c) s) fun _ => sleepChar_lawsKept c s
  · exact .ite (fun _ => inTurnaround_lawsKept (assemble_lawsKept c) s) fun _ => assemble_lawsKept c s
  · exact .ite (fun _ => inTurnaround_lawsKept (assemble_lawsKept c) s) fun _ => assemble_lawsKept c s

theorem sendResponse_lawsKept (s : State) : LawsKept s (sendResponse s) := by
  unfold sendResponse
  split
  · exact .of_view rfl
  · exact .refl s

/-! ### Presence (R174) -/

/-- A window runs for a PRESENT master alone, so for no panel of an unfitted bay. -/
theorem fitted_of_windowRuns {m : Master} {s : State} (hw : windowRuns m s = true) (h : UnfittedLaw s) :
    masterFitted m s = true := by
  cases m with
  | supervisor => rfl
  | panel b =>
    by_contra hf
    obtain ⟨-, -, -, -, hpresent, -, -⟩ := h b (by simpa [masterFitted] using hf)
    simp [windowRuns, masterState, hpresent] at hw

theorem expirePresence_lawsKept {m : Master} {s : State} (hw : windowRuns m s = true) :
    LawsKept s (expirePresence m s) := by
  have habsent : LawsKept s (raiseSup .masterLost
      (setMaster m { masterState m s with present := false, window := windowMs m } s)) := by
    refine LawsKept.trans (setMaster_lawsKept (fun hline => ?_) (fitted_of_windowRuns hw)) (raiseSup_lawsKept _ _)
    exact hline
  refine habsent.trans ?_
  cases m with
  | supervisor => exact .of_view rfl
  | panel b => exact enterParking_lawsKept b .masterLost _

/-! ### Resets (R181): both laws stand afresh -/

theorem resetPart_lineLaw (cause : ResetCause) (straps : Straps) (s : State) :
    LineLaw (resetPart cause straps s) := by
  refine ⟨by simp [LineFollows, resetPart, State.reset], fun b => ?_⟩
  have hpanel (fitted : Bool) : LineFollows (resetPanel fitted) := by
    cases fitted <;> simp [LineFollows, resetPanel, panelBit, eventSet]
  simpa [resetPart] using hpanel _

theorem resetPart_unfittedLaw (cause : ResetCause) (straps : Straps) (s : State) :
    UnfittedLaw (resetPart cause straps s) := by
  intro b hb
  have hfit : straps.fitted.get b = false := hb
  simp [resetPart, State.reset, resetBay, resetPanel, hfit]

theorem resetPart_lawsKept (cause : ResetCause) (straps : Straps) (s : State) :
    LawsKept s (resetPart cause straps s) :=
  ⟨fun _ => resetPart_lineLaw cause straps s, fun _ => resetPart_unfittedLaw cause straps s⟩

/-! ### A round and its readers (chapters 4 and 5) -/

theorem allotmentRound_lawsKept (s : State) : LawsKept s (allotmentRound s) := by
  have hdecided (d : CompressorDecision) : LawsKept s (applyDecision d s) := by
    cases d with
    | shed => exact (raiseSup_lawsKept _ _).after_view rfl
    | stayOn | turnOff | turnOn | stayOff => exact .of_view rfl
  exact (hdecided _).trans (.of_view rfl)

theorem creditBay_lineLaw (credits : PerBay Nat) (b : Bay) {s : State} (h : LineLaw s) :
    LineLaw (creditBay credits b s) := by
  unfold creditBay
  dsimp only
  split
  · split
    · exact endStep_lineLaw b _ (setContext_lineLaw b _ h)
    · exact setContext_lineLaw b _ h
  · exact h

theorem creditBay_of_zero {credits : PerBay Nat} {b : Bay} (s : State) (h : credits.get b = 0) :
    creditBay credits b s = s := by
  unfold creditBay
  dsimp only
  rw [h]
  cases (s.bsq.get b).context <;> rfl

theorem creditBay_unfittedLaw {credits : PerBay Nat} {b : Bay} {s : State}
    (hb : s.fitted.get b = false → credits.get b = 0) (h : UnfittedLaw s) : UnfittedLaw (creditBay credits b s) := by
  by_cases hf : s.fitted.get b = true
  · unfold creditBay
    dsimp only
    split
    · have hcredited (c : Option Context) := (setContext_lawsKept (b := b) c fun _ => hf).unfitted h
      split
      · exact endStep_unfittedLaw _ hf (hcredited _)
      · exact hcredited _
    · exact h
  · rwa [creditBay_of_zero s (hb (by simpa using hf))]

theorem creditBays_unfittedLaw {credits : PerBay Nat} {s : State}
    (hz : ∀ b, s.fitted.get b = false → credits.get b = 0) (h : UnfittedLaw s) :
    UnfittedLaw (forBays (creditBay credits) s) := by
  refine (forBays_preserves (p := fun t => t.fitted = s.fitted ∧ UnfittedLaw t) (fun b t ht => ?_) ⟨rfl, h⟩).2
  obtain ⟨hfitted, hlaw⟩ := ht
  exact ⟨(creditBay_kept credits b t).fitted.trans hfitted,
    creditBay_unfittedLaw (fun hb => hz b (hfitted ▸ hb)) hlaw⟩

/-- A yield credits no unfitted bay, as none steams. -/
theorem steamCredits_of_unfitted {s : State} {b : Bay} (y : Nat) (h : UnfittedLaw s) (hb : s.fitted.get b = false) :
    (steamCredits y s).get b = 0 :=
  steamCredits_of_not_steaming y (by simp [steaming, runningCopy, copyIs, (h b hb).1])

theorem takeSteam_lawsKept (s : State) : LawsKept s (takeSteam s) := by
  unfold takeSteam
  dsimp only
  refine .ite (fun _ => ⟨fun h => ?lines, fun h => ?unfitted⟩) fun _ => .of_view rfl
  case lines => exact forBays_preserves (creditBay_lineLaw _) h
  case unfitted => exact creditBays_unfittedLaw (fun _ => steamCredits_of_unfitted _ h) h

theorem takeHeaters_lawsKept (s : State) : LawsKept s (takeHeaters s) :=
  (LawsKept.forBays (f := takeHeater) (fun _ _ => .of_view rfl) _).after_view rfl

theorem takePower_lawsKept (b : Bay) (s : State) : LawsKept s (takePower b s) :=
  (reholdPower_lawsKept b _).after_view rfl

/-! ### Samples (chapter 7) -/

theorem consumeEdge_lawsKept (sw : Switch) (e : Edge) (s : State) : LawsKept s (consumeEdge sw e s) := by
  cases sw with
  | front b => exact (reholdFront_lawsKept b s).trans (driveValve_lawsKept b _)
  | boilerWaterOk => cases e with
    | rising =>
      change LawsKept s (waterOk s)
      unfold waterOk
      split
      · exact enterHeat_lawsKept s
      · exact examineStart_lawsKept s
      · exact .refl s
    | falling => exact .ite (fun _ => towardsFill_lawsKept s) fun _ => .refl s
  | boilerCutout => cases e with
    | rising => exact lockBoiler_lawsKept .cutout s
    | falling => exact examineStart_lawsKept s
  | freshLow => cases e with
    | rising => exact raiseSup_lawsKept .freshLow s
    | falling => exact .refl s
  | freshEmpty => cases e with
    | rising =>
      exact .ite (fun _ => (raiseSup_lawsKept .freshEmpty s).trans (toBoiler_lawsKept .starved _))
        fun _ => raiseSup_lawsKept .freshEmpty s
    | falling => exact refill_lawsKept s
  | condFull => cases e with
    | rising =>
      exact ((raiseSup_lawsKept .condFull s).trans (forceCompressorOff_lawsKept _)).trans
        (.forBays reholdTank_lawsKept _)
    | falling => exact .forBays reholdTank_lawsKept s

theorem takeSwitch_lawsKept (sw : Switch) (level : Bool) (s : State) : LawsKept s (takeSwitch sw level s) := by
  unfold takeSwitch
  dsimp only
  split
  · exact (consumeEdge_lawsKept sw _ _).after_view rfl
  · exact .of_view rfl

section
variable (b : Bay) (old new : Channel) (s : State)

theorem channelFault_lawsKept : LawsKept s (channelFault b old new s) :=
  .ite (fun _ => (raiseSup_lawsKept _ s).trans (baySensorFault_lawsKept b _)) fun _ => .refl s

theorem channelBack_lawsKept : LawsKept s (channelBack b old new s) :=
  .ite (fun _ => examineAdmission_lawsKept b s) fun _ => .refl s

theorem state_of_runningCopy {q : Bsq} {c : StepCopy} (hc : runningCopy q = some c) : q.state = .running := by
  by_contra hs
  simp [runningCopy, hs] at hc

theorem compareGoal_lawsKept (kind : StepKind) : LawsKept s (compareGoal kind b new s) := by
  unfold compareGoal
  split
  next k x hk _ =>
    have hrunning := state_of_runningCopy hk
    have hcounted (c : Option Context) :=
      setContext_lawsKept (b := b) (s := s) c fun h => h.fitted_of_state (by simp [hrunning])
    refine .ite (fun _ => ?_) fun _ => .refl s
    split
    next =>
      refine .ite (fun _ => (hcounted _).trans (endStep_lawsKept .done fun h => ?_)) fun _ => hcounted _
      exact h.fitted_of_state (by simp [setContext, hrunning])
    next => exact .refl s
  next => exact .refl s

theorem parkSample_lawsKept : LawsKept s (parkSample b s) :=
  .ite (fun hp => endPark_lawsKept fun h => h.fitted_of_state (by simp [hp.1])) fun _ => .refl s

theorem consumeTemperature_lawsKept : LawsKept s (consumeTemperature b old new s) := by
  have hfault := channelFault_lawsKept b old new s
  refine LawsKept.trans ?_ (channelBack_lawsKept b old new _)
  refine LawsKept.trans ?_ (parkSample_lawsKept b _)
  refine LawsKept.trans ?_ (compareGoal_lawsKept b new _ _)
  refine LawsKept.trans ?_ (.of_view (s := ite _ _ _) rfl)
  exact .ite (fun _ => hfault.trans (.of_view rfl)) fun _ => hfault

theorem consumeHumidity_lawsKept : LawsKept s (consumeHumidity b old new s) :=
  ((channelFault_lawsKept b old new s).trans (compareGoal_lawsKept b new _ _)).trans (channelBack_lawsKept b old new _)

theorem compareBoiler_lawsKept (v : Nat) : LawsKept s (compareBoiler v s) :=
  .ite (fun _ => lockBoiler_lawsKept _ s) fun _ => .ite (fun _ => toBoiler_lawsKept _ s) fun _ =>
    .ite (fun _ => toBoiler_lawsKept _ s) fun _ => .refl s

theorem consumeBoiler_lawsKept : LawsKept s (consumeBoiler old new s) := by
  unfold consumeBoiler
  refine .ite (fun _ => (raiseSup_lawsKept _ s).trans (lockBoiler_lawsKept _ _)) fun _ => ?_
  cases validValue new with
  | none => exact .ite (fun _ => examineStart_lawsKept s) fun _ => .refl s
  | some v =>
    have hcompared := compareBoiler_lawsKept s v
    exact .ite (fun _ => hcompared.trans (examineStart_lawsKept _)) fun _ => hcompared

end

theorem takeAnalog_lawsKept (ch : Analog) (raw : BitVec 10) (s : State) : LawsKept s (takeAnalog ch raw s) := by
  cases ch with
  | bayTemperature b => exact (consumeTemperature_lawsKept b _ _ _).after_view rfl
  | bayHumidity b => exact (consumeHumidity_lawsKept b _ _ _).after_view rfl
  | boilerTemperature => exact (consumeBoiler_lawsKept _ _ _).after_view rfl

/-! ### Timers (R54, R58, R69, R163) -/

theorem expireStep_lawsKept (b : Bay) (s : State) : LawsKept s (expireStep b s) := by
  unfold expireStep
  split
  next c x hc _ =>
    have hrunning := state_of_runningCopy hc
    exact (setContext_lawsKept _ fun h => h.fitted_of_state (by simp [hrunning])).trans
      (endStep_lawsKept _ fun h => h.fitted_of_state (by simp [setContext, hrunning]))
  next => exact .refl s

theorem expireStall_lawsKept {b : Bay} {s : State} (hc : stallCounts (s.bsq.get b) = true) :
    LawsKept s (expireStall b s) := by
  unfold expireStall
  split
  · refine (setContext_lawsKept _ fun h => h.fitted_of_state fun hs => ?_).trans (enterParking_lawsKept b .stalled _)
    simp [stallCounts, hs] at hc
  · exact .refl s

/-- A bay that parks is a fitted one, so its sequencer may change. -/
theorem setBsq_parking_lawsKept {b : Bay} {s : State} (q : Bsq) (hs : (s.bsq.get b).state = .parking) :
    LawsKept s (setBsq b q s) :=
  .of_bay (setBsq_frame b q s) (setBsq_lineLaw b q) fun h => h.fitted_of_state (by simp [hs])

theorem expirePark_lawsKept (b : Bay) (limit : ParkLimit) (s : State) : LawsKept s (expirePark b limit s) := by
  refine .ite (fun hs => ?_) fun _ => .refl s
  cases limit with
  | minimum =>
    refine .ite (fun _ => .refl s) fun _ => ?_
    have hcounted (q : Bsq) := setBsq_parking_lawsKept q hs
    refine .ite (fun _ => (hcounted _).trans (endPark_lawsKept fun h => ?_)) fun _ => hcounted _
    exact h.fitted_of_state (by simp [hs])
  | maximum =>
    exact (setBsq_parking_lawsKept _ hs).trans (endPark_lawsKept fun h => h.fitted_of_state (by simp [hs]))

theorem endPhase_lawsKept (pass : Bool) (s : State) : LawsKept s (endPhase pass s) := by
  have hfails : LawsKept s (commitFails s) := (raiseSup_lawsKept _ _).after_view rfl
  have hset (p : Pts) : LawsKept s (setPts p s) := .of_view rfl
  unfold endPhase
  split
  · exact .refl s
  · exact hset _
  · exact .ite (fun _ => hset _) fun _ => .ite (fun _ => hfails) fun _ => hset _
  · exact hset _
  · exact .ite (fun _ => hset _) fun _ => .ite (fun _ => hfails) fun _ => hset _
  · exact (raiseSup_lawsKept _ _).after_view rfl

/-! ### Every command, and a step -/

/-- Each command answers a next state, in which both laws are kept. -/
theorem exec_lawsKept (c : Instr) (s : State) : ∃ t, exec c s = .next t ∧ LawsKept s t := by
  cases c with
  | powerOnReset straps => exact ⟨_, rfl, resetPart_lawsKept .powerOn straps s⟩
  | pinReset straps => exact ⟨_, rfl, resetPart_lawsKept .pin straps s⟩
  | startupEnd => exact ⟨_, rfl, .ite (fun _ => .of_view rfl) fun _ => .refl s⟩
  | linkCharacter c =>
    change ∃ t, execLinkCharacter c s = .next t ∧ LawsKept s t
    unfold execLinkCharacter
    split
    · exact ⟨_, rfl, takeChar_lawsKept _ s⟩
    · exact ⟨_, rfl, .refl s⟩
  | idleGapExpiry => exact ⟨_, rfl, .ite (fun _ => (linkFault_lawsKept _).after_view rfl) fun _ => .refl s⟩
  | unknownSourceFrame source kind payload noise => exact ⟨_, rfl, acceptFrame_lawsKept _ _ _ _ s⟩
  | unknownKindRequest m kind payload noise => exact ⟨_, rfl, acceptFrame_lawsKept _ _ _ _ s⟩
  | responseSend => exact ⟨_, rfl, sendResponse_lawsKept s⟩
  | echoMismatch n readBack =>
    change ∃ t, execEchoMismatch n readBack s = .next t ∧ LawsKept s t
    unfold execEchoMismatch
    split
    · split
      · exact ⟨_, rfl, .ite (fun _ => (linkFault_lawsKept _).after_view rfl) fun _ => .refl s⟩
      · exact ⟨_, rfl, .refl s⟩
    · exact ⟨_, rfl, .refl s⟩
  | presenceExpiry m => exact ⟨_, rfl, .ite expirePresence_lawsKept fun _ => .refl s⟩
  | ping | statusPlant | statusBay | eventsRead | eventsClear | eventsMask | stepAppend | queueCancel | outcomeRead
  | outcomeFree | bayPause | bayResume | programAbort | budgetSet | profileRead | profileWrite | profileCommit
  | plantModeRun | plantModeStandby | plantModeSleep | warmRestart | outputService | outputServiceAuto | bayClear
  | boilerClear => exact ⟨_, rfl, takeRequest_lawsKept _ _ _ s⟩
  | wake => exact ⟨_, rfl, .ite (fun _ => wakePart_lawsKept s) fun _ => .refl s⟩
  | wakeSettlingEnd => exact ⟨_, rfl, .ite (fun _ => (raiseSup_lawsKept _ _).after_view rfl) fun _ => .refl s⟩
  | allotmentRound => exact ⟨_, rfl, .ite (fun _ => allotmentRound_lawsKept s) fun _ => .refl s⟩
  | steamYield => exact ⟨_, rfl, takeSteam_lawsKept s⟩
  | heaterDriveUpdate => exact ⟨_, rfl, takeHeaters_lawsKept s⟩
  | noPowerReevaluation b => exact ⟨_, rfl, takePower_lawsKept b s⟩
  | switchSample sw level => exact ⟨_, rfl, .ite (fun _ => takeSwitch_lawsKept sw level s) fun _ => .refl s⟩
  | analogSample ch raw => exact ⟨_, rfl, .ite (fun _ => takeAnalog_lawsKept ch raw s) fun _ => .refl s⟩
  | stepDurationExpiry b => exact ⟨_, rfl, expireStep_lawsKept b s⟩
  | stall b => exact ⟨_, rfl, .ite expireStall_lawsKept fun _ => .refl s⟩
  | parkTimer b limit => exact ⟨_, rfl, expirePark_lawsKept b limit s⟩
  | fillTimeout => exact ⟨_, rfl, .ite (fun _ => toBoiler_lawsKept .starved s) fun _ => .refl s⟩
  | idleCooldown => exact ⟨_, rfl, .ite (fun _ => toBoiler_lawsKept .cold s) fun _ => .refl s⟩
  | commitPhaseEnd pass => exact ⟨_, rfl, endPhase_lawsKept pass s⟩

/-- What a millisecond leaves of a master: all but its window timer (R174). -/
theorem tickMaster_eq (m : Master) (s : State) :
    tickMaster m s = { masterState m s with window := (tickMaster m s).window } := by
  unfold tickMaster
  dsimp only
  split <;> rfl

theorem tick_lawsKept (s : State) : LawsKept s (tick s) := by
  constructor
  · intro h
    refine ⟨?_, fun b => ?_⟩
    · change LineFollows (tickMaster .supervisor s)
      rw [tickMaster_eq]
      exact h.1
    · change LineFollows ((PerBay.ofFn fun b => tickMaster (.panel b) s).get b)
      rw [PerBay.get_ofFn, tickMaster_eq]
      exact h.2 b
  · intro h b hb
    have hbay := h b hb
    simp only [tick, PerBay.get_ofFn, PerBay.get_map]
    rw [tickMaster_eq]
    simpa [tickBay, hbay.1, masterState] using hbay

theorem spendFree_lawsKept (c : Instr) (s : State) : LawsKept s (spendFree c s) := by
  unfold spendFree
  split
  · exact .of_view rfl
  · exact .refl s

/-- A step takes a command, from the queue or because it is due, or lets a millisecond pass. -/
theorem step_lawsKept {s t : State} (h : step s = .next t) : LawsKept s t := by
  have hexec {c : Instr} {u : State} (hc : exec c u = .next t) (hu : LawsKept s u) : LawsKept s t := by
    obtain ⟨v, hv, hkept⟩ := exec_lawsKept c u
    obtain rfl : v = t := by simpa [hv] using hc
    exact hu.trans hkept
  unfold step at h
  split at h
  · exact hexec h (.of_view rfl)
  · unfold idleStep at h
    split at h
    · exact hexec h (spendFree_lawsKept _ s)
    · cases h
      exact tick_lawsKept s

/-- Settles O57: every operation that changes events drives its master's line anew, and every operation on a bay finds it
fitted, by the common checks of a request or because its sequencer is not ABSENT, or leaves it empty. -/
theorem linesAndUnfittedBaysAreKept : Obligations.LinesAndUnfittedBaysAreKept :=
  ⟨fun _ _ hs h => (step_lawsKept h).lines hs, fun _ _ hs h => (step_lawsKept h).unfitted hs⟩

end Sys2Proof.Machine
end

section
/-! PROFILE_WRITE, one equation for each way it can end (R160, R191), and the slots after a write. -/

namespace Sys2Proof.Machine

/-! ### The slots after a write -/

/-- The profile state with a slot's contents replaced and the dirty flag set (R160, R161). -/
def Pts.withSlot (slot : Byte) (p : Option Profile) (x : Pts) : Pts :=
  { x with table := x.table.setIfInBounds slot.toNat p, dirty := true }

theorem writeSlot_eq (slot : Byte) (p : Option Profile) (s : State) :
    writeSlot slot p s = { s with pts := s.pts.withSlot slot p } := rfl

theorem Pts.withSlot_table_self {slot : Byte} (p : Option Profile) (x : Pts) (h : slot.toNat ≤ 15) :
    (x.withSlot slot p).table[slot.toNat]? = some p :=
  Vector.getElem?_setIfInBounds_self_of_lt (Nat.lt_succ_of_le h)

theorem Pts.withSlot_table_other {slot : Byte} {i : Nat} (p : Option Profile) (x : Pts) (h : i ≠ slot.toNat) :
    (x.withSlot slot p).table[i]? = x.table[i]? :=
  Vector.getElem?_setIfInBounds_ne h.symm

/-- The answer after a write carries the slot as just written (section 12.5). -/
theorem profilePayload_writeSlot {slot : Byte} (p : Option Profile) (s : State) (h : slot.toNat ≤ 15) :
    profilePayload slot (writeSlot slot p s) = [slot] ++ profileBytes p ++ commitBytes (s.pts.withSlot slot p) := by
  simp [profilePayload, writeSlot_eq, Pts.withSlot_table_self p s.pts h]

/-! ### The clamped values -/

/-- The lower bound 0 of the dose and of the oscillation binds nothing (R157, R160). -/
theorem clampProfile_eq (v : ProfileValues) :
    clampProfile v =
      { maxAirTemp := min 70 (max 30 v.maxAirTemp.toNat), maxDose := min 400 v.maxDose.toNat
        maxFan := min 8 (max 1 v.maxFan.toNat), maxOsc := min 120 v.maxOsc.toNat
        dryFloor := min 80 (max 20 v.dryFloor.toNat), maxStep := min 3600 (max 60 v.maxStep.toNat) } := by
  simp only [clampProfile, clampInto, Nat.zero_max]

/-! ### The owner -/

section
variable {slot : Byte} {v : ProfileValues} {s : State}

theorem ownerProfileWrite_empty (h : slot.toNat ≤ 15) :
    ownerProfileWrite slot 0x00#8 v s =
      (writeSlot slot none s, ackWith ([slot] ++ profileBytes none ++ commitBytes (s.pts.withSlot slot none))) := by
  rw [← profilePayload_writeSlot none s h]
  rfl

theorem ownerProfileWrite_valid (h : slot.toNat ≤ 15) :
    ownerProfileWrite slot 0x01#8 v s =
      (writeSlot slot (some (clampProfile v)) s,
        ackWith ([slot] ++ profileBytes (some (clampProfile v)) ++
          commitBytes (s.pts.withSlot slot (some (clampProfile v))))) := by
  rw [← profilePayload_writeSlot _ s h]
  rfl

theorem ownerProfileWrite_valueBad {state : Byte} (h0 : state ≠ 0x00#8) (h1 : state ≠ 0x01#8) :
    ownerProfileWrite slot state v s = (s, nakWith .valueBad []) := by
  rw [ownerProfileWrite, if_neg h0, if_neg h1]

end

/-! ### The request -/

/-- A request of the supervisor that names no bay passes the bay checks (R175, checks 1, 6 and 7). -/
theorem passes_of_supervisor_plant {r : Request} {s : State} (hent : entitled .supervisor (reqKind r) = true)
    (hlen : lengthOk r = true) (hidx : indexOk r = true) (hbay : bayNamed r = none) : Passes .supervisor r s where
  master := rfl
  entitled := hent
  length := hlen
  index := hidx
  bay c hc := by simp [hbay] at hc

/-- The supervisor writes a slot of the table: the profile table's owner answers (R160, R175). -/
theorem exec_profileWrite_supervisor {slot : Byte} {s : State} (noise : Bool) (state : Byte) (v : ProfileValues)
    (hA : Awake s) (hslot : slot.toNat ≤ 15) :
    exec (.profileWrite .supervisor noise slot state v) s =
      .next (respond .supervisor 0x10#8 noise (ownerProfileWrite slot state v (heard .supervisor s)).2
        (ownerProfileWrite slot state v (heard .supervisor s)).1) := by
  have hp : Passes .supervisor (.profileWrite slot state v) s :=
    passes_of_supervisor_plant rfl rfl (by simpa [indexOk] using hslot) rfl
  change Host.Outcome.next (takeRequest _ noise _ s) = _
  rw [takeRequest_passes noise hA hp]
  rfl

/-- Settles O55, one equation of the owner for each state code; hearing the supervisor leaves the table as it is. -/
theorem profileWriteReplacesItsSlot : Obligations.ProfileWriteReplacesItsSlot := by
  intro noise slot state v s hA hslot
  have hgot := exec_profileWrite_supervisor noise state v hA hslot
  refine ⟨?empty, ?valid, fun h0 h1 => ?refused, fun p => ⟨?self, fun i hi => ?other⟩⟩
  case empty =>
    rintro rfl
    rw [hgot, ownerProfileWrite_empty hslot]
    rfl
  case valid =>
    rintro rfl
    rw [hgot, ownerProfileWrite_valid hslot, clampProfile_eq]
    rfl
  case refused =>
    rw [hgot, ownerProfileWrite_valueBad h0 h1]
    rfl
  case self => exact (heard .supervisor s).pts.withSlot_table_self p hslot
  case other =>
    rw [← heard_pts .supervisor s]
    exact (heard .supervisor s).pts.withSlot_table_other p hi

end Sys2Proof.Machine
end

section
/-! What a step can do, said once: every step of the machine is a chain of moves (`Move`), each of them an operation
that the laws of a safe run may be checked on, with the condition under which the machine performs it. -/

namespace Sys2Proof.Machine

/-! ### The operations that are cut out of the model's functions -/

/-- Two contexts at the same step of the same program: they differ in counts, timers and the paused flag (R42). -/
structure SameStep (x y : Context) : Prop where
  stepCount : y.stepCount = x.stepCount
  copies : y.copies = x.copies
  index : y.index = x.index
  pendingResult : y.pendingResult = x.pendingResult

/-- The state with the program at the head of the ring admitted, before its step 0 is entered (R17, R35). -/
def programAdmitted (b : Bay) (program : List StepRecord) (s : State) : State :=
  setBsq b
    { s.bsq.get b with
      admission := (s.bsq.get b).admission + 1
      context := some
        { stepCount := program.length, copies := (clampProgram s.pts.table program).1
          clamped := (clampProgram s.pts.table program).2, index := 0, paused := false, stepTimer := 0, heldTime := 0
          stallTimer := 0, satisfied := 0, delivered := 0, pendingResult := none } } <|
    setRing b { s.srs.get b with admitted := program.length } <|
    setOutcomes b { s.oau.get b with reservation := true } s

theorem acceptProgram_eq (b : Bay) (program : List StepRecord) (s : State) :
    acceptProgram b program s = examineSteam (enterStep b 0 (programAdmitted b program s)) := rfl

/-- The end of a final step: its outcome, and the bay IDLE with no program (R59). -/
def programEnded (b : Bay) (result : Result) (x : Context) (s : State) : State :=
  becomeIdle b <| removeStep b <|
    postOutcome b .final (stepOutcome b x result true (withdrawAux b s)) (withdrawAux b s)

/-- The outcome of a step that is not final, posted only with NOTIFY (R59). -/
def stepNotified (b : Bay) (result : Result) (x : Context) (s : State) : State :=
  if headNotify b s then postOutcome b .notify (stepOutcome b x result false s) s else s

/-- The end of a step that is not final: the next one is entered (R59). -/
def stepGivesWay (b : Bay) (result : Result) (x : Context) (s : State) : State :=
  enterStep b (x.index + 1) (removeStep b (stepNotified b result x (withdrawAux b s)))

theorem endStep_of_final {b : Bay} {x : Context} {s : State} (result : Result) (hx : (s.bsq.get b).context = some x)
    (hf : isFinalStep x = true) : endStep b result s = examineAdmission b (programEnded b result x s) := by
  simp only [endStep, hx, hf, if_true]
  rfl

theorem endStep_of_not_final {b : Bay} {x : Context} {s : State} (result : Result)
    (hx : (s.bsq.get b).context = some x) (hf : isFinalStep x = false) :
    endStep b result s = stepGivesWay b result x s := by
  simp only [endStep, hx, hf, Bool.false_eq_true, if_false]
  rfl

/-- A park's end before admission is examined (R70, R71). -/
def parkEnded (b : Bay) (s : State) : State :=
  driveBay b <| raisePanel b .stateChange <|
    setBsq b
      { (closeProgram b s).bsq.get b with
        state := if ((closeProgram b s).bsq.get b).faultAfterPark then .faulted else .idle
        context := none, parkTimer := 0, parkMinTaken := false, faultAfterPark := false } (closeProgram b s)

theorem closeProgram_bsq (b : Bay) (s : State) : (closeProgram b s).bsq = s.bsq := by
  unfold closeProgram
  split
  · split
    · simp [postOutcome_bsq]
    · rfl
  · rfl

theorem endPark_eq (b : Bay) (s : State) :
    endPark b s = if (s.bsq.get b).faultAfterPark then parkEnded b s else examineAdmission b (parkEnded b s) := by
  rw [← closeProgram_bsq]
  rfl

/-- What a conversion of a bay temperature does before it is compared with a goal: a fault of the channel, the grant
withdrawn, and the demand formed anew (R67, R94, R122). -/
def temperatureTaken (b : Bay) (old new : Channel) (s : State) : State :=
  let s1 := channelFault b old new s
  formDemand b (if leavesValid old new || atLimit b new s1 then withdrawAux b s1 else s1)

/-- The fan ceilings of every table that the profile store holds are at most 8 (R157). -/
def PtsFans (p : Pts) : Prop :=
  ProfileFans p.table ∧ (∀ t, p.snapshot = some t → ProfileFans t) ∧ (∀ t, p.store = some t → ProfileFans t)

/-! ### Moves of one bay -/

/-- What one bay does in an event. -/
inductive BayMove (b : Bay) (s : State) : State → Prop
  | panel (x : MasterState) : BayMove b s (setMaster (.panel b) x s)
  | holds (h : HoldSet) : BayMove b s (changeHolds b h s)
  | count {x y : Context} (hx : (s.bsq.get b).context = some x) (hy : SameStep x y) :
      BayMove b s (setContext b (some y) s)
  | start (hs : (s.bsq.get b).state = .waiting) (hf : 1 ≤ freeEntries (s.oau.get b)) : BayMove b s (startStep b s)
  | givesWay {c : StepCopy} {x : Context} (result : Result) (hc : runningCopy (s.bsq.get b) = some c)
      (hx : (s.bsq.get b).context = some x) (hf : isFinalStep x = false) : BayMove b s (stepGivesWay b result x s)
  | ends {c : StepCopy} {x : Context} (result : Result) (hc : runningCopy (s.bsq.get b) = some c)
      (hx : (s.bsq.get b).context = some x) (hf : isFinalStep x = true) : BayMove b s (programEnded b result x s)
  | reject {program : List StepRecord} (index : Nat) (reason : RejectReason) (tag : Byte)
      (ha : admissible b s = true) (hp : headProgram (s.srs.get b).records = some program) :
      BayMove b s (rejectProgram b program.length index reason tag s)
  | accept {program : List StepRecord} (ha : admissible b s = true)
      (hp : headProgram (s.srs.get b).records = some program) (hf : firstFailure s.pts.table 0 program = none) :
      BayMove b s (enterStep b 0 (programAdmitted b program s))
  | park (result : ParkResult) : BayMove b s (enterParking b result s)
  | parkCount (timer : Nat) (taken fault : Bool) (hs : (s.bsq.get b).state = .parking) :
      BayMove b s (setBsq b { s.bsq.get b with parkTimer := timer, parkMinTaken := taken, faultAfterPark := fault } s)
  | parkEnds (hs : (s.bsq.get b).state = .parking) : BayMove b s (parkEnded b s)
  | clear (hs : (s.bsq.get b).state = .faulted) :
      BayMove b s (driveBay b (raisePanel b .stateChange (setBsq b { s.bsq.get b with state := .idle } s)))
  | append {records : List StepRecord} (n : Nat)
      (hroom : (s.srs.get b).records.length + records.length ≤ ringPlaces) : BayMove b s (withBatch b records n s)
  | cancel (hf : 1 ≤ freeEntries (s.oau.get b)) :
      BayMove b s (postOutcome b .other (cancelOutcome b ((s.srs.get b).records.drop (s.srs.get b).admitted) s)
        (withoutBehind b s))
  | free {freed : Byte} (hk : (freed - (s.oau.get b).f).toNat ≤ (s.oau.get b).records.length) :
      BayMove b s (setOutcomes b
        { s.oau.get b with
          records := (s.oau.get b).records.drop (freed - (s.oau.get b).f).toNat, f := freed } s)
  | outputs {o : BayOutputs} (hdemand : o.demand = (s.alc.bays.get b).demand) (hdrive : o.drive = (s.alc.bays.get b).drive)
      (hfan : (s.alc.bays.get b).fan.driven ≤ 8 ∧ (s.alc.bays.get b).fan.service ≤ 8 →
        o.fan.driven ≤ 8 ∧ o.fan.service ≤ 8) : BayMove b s (setOutputs b o s)
  | heater : BayMove b s (takeHeater b s)
  | restart : BayMove b s (restartBay b s)

/-! ### Moves of the plant -/

/-- What the machine does in an event, taken in parts that the laws of a safe run survive one by one. -/
inductive Move (s : State) : State → Prop
  | bay (b : Bay) {t : State} (h : BayMove b s t) : Move s t
  | queue (waiting : List Instr) (n : Nat) : Move s { s with pending := waiting, freeCount := n }
  | link (p : Pli) : Move s { s with pli := p }
  | events {x : MasterState} (h : x.present = s.supervisor.present) : Move s { s with supervisor := x }
  | presence (x : MasterState) : Move s (formEffective { s with supervisor := x })
  | budget (v : Nat) : Move s (formEffective { s with pae := { s.pae with budget := clampBudget v } })
  | mode {m : Moc} (h : m.phase = s.moc.phase ∨ m.phase = .run ∨ (s.moc.phase = .settling ∧ m.phase = .standby)) :
      Move s { s with moc := m }
  | roundTimer (n : Nat) : Move s { s with pae := { s.pae with roundTimer := n } }
  | untaken (u : Untaken) : Move s { s with untaken := u }
  | store {p : Pts} (h : PtsFans s.pts → PtsFans p) : Move s { s with pts := p }
  | boilerParts {x : Blc} (hstate : x.state = s.blc.state) (hcause : x.cause = s.blc.cause)
      (hvalves : x.valves = s.blc.valves)
      (hcarry : x.carry = s.blc.carry ∨ x.carry = 0 ∨ (s.blc.state = .ready ∧ x.carry < steamHeat)) :
      Move s { s with blc := x }
  | boiler {next : BoilerState} (hnext : next ≠ .locked) (hnow : s.blc.state ≠ .locked)
      (hrun : next = .cold ∨ s.moc.phase = .run ∨ s.blc.state ≠ .cold) : Move s (toBoiler next s)
  | lock {cause : LockCause} (hcause : cause ≠ .none) : Move s (lockBoiler cause s)
  | unlock : Move s (boilerUnlocked s)
  | round (h : roundsRun s = true) : Move s (allotmentRound s)
  | restartPae : Move s (restartPae s)
  | standby : Move s (enterStandby s)
  | sleep (h : s.moc.phase = .standby) (hm : maySleep s = true) : Move s (enterSleep s)
  | wake (h : s.moc.phase = .sleep) : Move s (wakePart s)
  | senses {u : Snu} (hfronts : ∀ b, (u.fronts.get b).filtered = (s.snu.fronts.get b).filtered)
      (htemps : u.temps = s.snu.temps) (hcond : u.condFull.filtered = true → s.snu.condFull.filtered = true) :
      Move s { s with snu := u }
  | front (b : Bay) {u : Snu} (hfronts : ∀ c, c ≠ b → u.fronts.get c = s.snu.fronts.get c)
      (htemps : u.temps = s.snu.temps) (hcond : u.condFull = s.snu.condFull) :
      Move s (driveValve b (reholdFront b { s with snu := u }))
  | tankFull {u : Snu} (hfronts : u.fronts = s.snu.fronts) (htemps : u.temps = s.snu.temps) :
      Move s (forceCompressorOff { s with snu := u })
  | temperature (b : Bay) (new : Channel) {u : Snu} (hfronts : u.fronts = s.snu.fronts)
      (htemps : u.temps = s.snu.temps.set b new) (hcond : u.condFull = s.snu.condFull) :
      Move s (temperatureTaken b (s.snu.temps.get b) new { s with snu := u })
  | reset (cause : ResetCause) (straps : Straps) : Move s (resetPart cause straps s)
  | tick : Move s (tick s)

/-- A chain of moves. -/
abbrev Moves : State → State → Prop := Relation.ReflTransGen Move

namespace Moves

variable {s t u : State}

theorem of_move (h : Move s t) : Moves s t := .single h

theorem of_bay {b : Bay} (h : BayMove b s t) : Moves s t := .single (.bay b h)

theorem ite {p : Prop} [Decidable p] (h : p → Moves s t) (k : ¬ p → Moves s u) : Moves s (if p then t else u) := by
  split
  · exact h ‹_›
  · exact k ‹_›

theorem forBays {f : Bay → State → State} (h : ∀ b s, Moves s (f b s)) (s : State) : Moves s (forBays f s) :=
  (((h .b0 s).trans (h .b1 _)).trans (h .b2 _)).trans (h .b3 _)

/-- A law that every move keeps is kept by a chain of them. -/
theorem keep {law : State → Prop} (hlaw : ∀ {s t : State}, Move s t → law s → law t) (h : Moves s t) (hs : law s) :
    law t := by
  induction h with
  | refl => exact hs
  | tail _ hm ih => exact hlaw hm ih

end Moves

/-! ### Bays -/

theorem setMaster_moves_panel (b : Bay) (x : MasterState) (s : State) : Moves s (setMaster (.panel b) x s) :=
  .of_bay (.panel x)

theorem raiseSup_moves (e : SupEvent) (s : State) : Moves s (raiseSup e s) := .of_move (.events rfl)

theorem dropOutcomeReady_moves (b : Bay) (s : State) : Moves s (dropOutcomeReady b s) := setMaster_moves_panel b _ s

theorem changeHolds_moves (b : Bay) (h : HoldSet) (s : State) : Moves s (changeHolds b h s) := .of_bay (.holds h)

theorem reholdPower_moves (b : Bay) (s : State) : Moves s (reholdPower b s) := by
  unfold reholdPower
  split
  · exact changeHolds_moves b _ s
  · exact .refl

theorem reholdTank_moves (b : Bay) (s : State) : Moves s (reholdTank b s) := by
  unfold reholdTank
  split
  · exact changeHolds_moves b _ s
  · exact .refl

theorem reholdStandby_moves (b : Bay) (s : State) : Moves s (reholdStandby b s) := by
  unfold reholdStandby
  split
  · exact changeHolds_moves b _ s
  · exact .refl

/-! ### The boiler -/

theorem towardsFill_moves {s : State} (hnow : s.blc.state ≠ .locked) (hrun : s.moc.phase = .run ∨ s.blc.state ≠ .cold) :
    Moves s (towardsFill s) :=
  Moves.ite (fun _ => .of_move (.boiler (by decide) hnow (.inr hrun)))
    fun _ => .of_move (.boiler (by decide) hnow (.inr hrun))

theorem enterHeat_moves {s : State} (hnow : s.blc.state ≠ .locked) (hrun : s.moc.phase = .run ∨ s.blc.state ≠ .cold) :
    Moves s (enterHeat s) := by
  have hheat : Moves s (toBoiler .heat s) := .of_move (.boiler (by decide) hnow (.inr hrun))
  exact Moves.ite (fun _ => hheat.tail (.boiler (by decide) (by simp) (.inr (.inr (by simp))))) fun _ => hheat

theorem steamWanted_run {s : State} (h : steamWanted s = true) : s.moc.phase = .run := by
  simp only [steamWanted, Bool.and_eq_true, decide_eq_true_eq] at h
  exact h.1

theorem examineStart_moves (s : State) : Moves s (examineStart s) := by
  refine Moves.ite (fun hc => ?_) fun _ => .refl
  obtain ⟨hcold, hwanted, -, -, -⟩ := hc
  have hnow : s.blc.state ≠ .locked := by simp [hcold]
  have hrun := steamWanted_run hwanted
  exact Moves.ite (fun _ => enterHeat_moves hnow (.inl hrun)) fun _ => towardsFill_moves hnow (.inl hrun)

theorem examineSteam_moves (s : State) : Moves s (examineSteam s) := by
  have h : Moves s { s with blc := { s.blc with idleTimer := 0 } } := .of_move (.boilerParts rfl rfl rfl (.inl rfl))
  exact Moves.ite (fun _ => h.trans (examineStart_moves _)) fun _ => .refl

theorem refill_moves (s : State) : Moves s (refill s) :=
  Moves.ite (fun h => towardsFill_moves (by simp [h.1]) (.inr (by simp [h.1]))) fun _ => .refl

theorem coolBoiler_moves (s : State) : Moves s (coolBoiler s) :=
  Moves.ite (fun _ => .refl) fun h => .of_move (.boiler (by decide) h (.inl rfl))

/-! ### Admission, steps and parks -/

theorem admitPrograms_moves (n : Nat) (b : Bay) (s : State) : Moves s (admitPrograms n b s) := by
  induction n generalizing s with
  | zero => exact .refl
  | succ n ih =>
    rw [admitPrograms]
    refine Moves.ite (fun ha => ?_) fun _ => .refl
    split
    next program hp =>
      split
      next i reason tag _ => exact (Moves.of_bay (.reject i reason tag ha hp)).trans (ih _)
      next hf => exact (Moves.of_bay (.accept ha hp hf)).trans (examineSteam_moves _)
    next => exact .refl

theorem examineAdmission_moves (b : Bay) (s : State) : Moves s (examineAdmission b s) := admitPrograms_moves _ b s

theorem endStep_moves {b : Bay} {c : StepCopy} {s : State} (result : Result)
    (hc : runningCopy (s.bsq.get b) = some c) : Moves s (endStep b result s) := by
  cases hx : (s.bsq.get b).context with
  | none => simpa [endStep, hx] using Relation.ReflTransGen.refl
  | some x =>
    cases hf : isFinalStep x with
    | true =>
      rw [endStep_of_final result hx hf]
      exact (Moves.of_bay (.ends result hc hx hf)).trans (examineAdmission_moves b _)
    | false =>
      rw [endStep_of_not_final result hx hf]
      exact .of_bay (.givesWay result hc hx hf)

/-- Counting leaves the step that runs. -/
theorem runningCopy_of_sameStep {q : Bsq} {x y : Context} (hx : q.context = some x) (hy : SameStep x y) :
    runningCopy { q with context := some y } = runningCopy q := by
  simp [runningCopy, currentCopy, hx, contextCopy, hy.copies, hy.index]

/-- A count that may end the running step. -/
theorem countThenEnd_moves {b : Bay} {c : StepCopy} {x y : Context} {s : State} (result : Result)
    (hc : runningCopy (s.bsq.get b) = some c) (hx : (s.bsq.get b).context = some x) (hy : SameStep x y) :
    Moves s (endStep b result (setContext b (some y) s)) := by
  refine (Moves.of_bay (.count hx hy)).trans (endStep_moves (c := c) result ?_)
  simp only [setContext, setBsq_bsq, PerBay.get_set_same]
  rw [runningCopy_of_sameStep hx hy, hc]

theorem enterParking_moves (b : Bay) (result : ParkResult) (s : State) : Moves s (enterParking b result s) :=
  .of_bay (.park result)

theorem endPark_moves {b : Bay} {s : State} (hs : (s.bsq.get b).state = .parking) : Moves s (endPark b s) := by
  rw [endPark_eq]
  have h : Moves s (parkEnded b s) := .of_bay (.parkEnds hs)
  exact Moves.ite (fun _ => h) fun _ => h.trans (examineAdmission_moves b _)

/-! ### The owners of the requests -/

section
variable (m : Master) (b : Bay) (s : State)

theorem ownerEventsClear_moves (events : Half) : Moves s (ownerEventsClear m events s).1 := by
  cases m with
  | supervisor => exact .of_move (.events rfl)
  | panel b => exact setMaster_moves_panel b _ s

theorem ownerEventsMask_moves (mask : Half) : Moves s (ownerEventsMask m mask s).1 := by
  cases m with
  | supervisor => exact .of_move (.events rfl)
  | panel b => exact setMaster_moves_panel b _ s

theorem ownerStepAppend_moves (expected : Byte) (records : List StepRecord) :
    Moves s (ownerStepAppend b expected records s).1 := by
  unfold ownerStepAppend
  dsimp only
  split
  · exact .refl
  split
  · exact .refl
  split
  · exact .refl
  next hroom =>
    split
    · exact .refl
    next n _ =>
      have h : Moves s (withBatch b records n s) := .of_bay (.append n (by omega))
      exact Moves.ite (fun _ => h.trans (examineAdmission_moves b _)) fun _ => h

theorem ownerQueueCancel_moves : Moves s (ownerQueueCancel b s).1 := by
  by_cases h : (s.srs.get b).records.drop (s.srs.get b).admitted = []
  · rw [ownerQueueCancel_nothing h]
  by_cases hfull : freeEntries (s.oau.get b) = 0
  · rw [ownerQueueCancel_outcomeFull h hfull]
  rw [ownerQueueCancel_removes h (by omega)]
  exact .of_bay (.cancel (by omega))

theorem afterFree_moves : Moves s (afterFree b s) := by
  unfold afterFree
  split
  next hs => exact Moves.ite (fun hf => .of_bay (.start hs hf)) fun _ => .refl
  next => exact examineAdmission_moves b s
  next => exact .refl

theorem ownerOutcomeFree_moves (freed : Byte) : Moves s (ownerOutcomeFree b freed s).1 := by
  unfold ownerOutcomeFree
  dsimp only
  split
  · exact .refl
  split
  · exact .refl
  next hk =>
    refine Relation.ReflTransGen.trans ?_ (afterFree_moves b _)
    have h := Moves.of_bay (b := b) (BayMove.free (s := s) (freed := freed) (by omega))
    exact Moves.ite (fun _ => h.trans (dropOutcomeReady_moves b _)) fun _ => h

theorem setPaused_moves (paused : Bool) : Moves s (setPaused b paused s) := by
  unfold setPaused
  split
  next x hx =>
    have h : Moves s (setContext b (some { x with paused := paused }) s) := .of_bay (.count hx ⟨rfl, rfl, rfl, rfl⟩)
    dsimp only
    split
    · exact h
    · exact h.trans (changeHolds_moves b _ _)
  next => exact .refl

theorem ownerProgramAbort_moves (number : Byte) : Moves s (ownerProgramAbort b number s).1 := by
  unfold ownerProgramAbort
  split
  · exact enterParking_moves b _ s
  · exact .refl
  · exact .refl

theorem ownerBayPause_moves (number : Byte) : Moves s (ownerBayPause b number s).1 := by
  unfold ownerBayPause
  split
  · exact setPaused_moves b s true
  · exact .refl
  · exact .refl

theorem ownerBayResume_moves (number : Byte) : Moves s (ownerBayResume b number s).1 := by
  unfold ownerBayResume
  split
  · exact setPaused_moves b s false
  · exact .refl
  · exact .refl

theorem ownerBayClear_moves : Moves s (ownerBayClear b s).1 := by
  by_cases h : (s.bsq.get b).state = .faulted ∧ bothValid b s = true
  · rw [ownerBayClear_clears h.1 h.2]
    exact (Moves.of_bay (.clear h.1)).trans (examineAdmission_moves b _)
  · rw [ownerBayClear_refuses (not_and_or.mp h)]

theorem ownerBudgetSet_moves (value : Half) : Moves s (ownerBudgetSet value s).1 := .of_move (.budget value.toNat)

theorem ownerBoilerClear_moves : Moves s (ownerBoilerClear s).1 := by
  unfold ownerBoilerClear
  split
  · exact (Moves.of_move .unlock).trans (examineStart_moves _)
  · exact .refl

/-- A slot written with a fan ceiling of at most 8 keeps the ceilings of the table (R160). -/
theorem writeSlot_fans {slot : Byte} {p : Option Profile} (hp : ∀ x, p = some x → x.maxFan ≤ 8) {s : State}
    (h : PtsFans s.pts) : PtsFans (writeSlot slot p s).pts := by
  obtain ⟨htable, hsnapshot, hstore⟩ := h
  refine ⟨fun i x hx => ?_, hsnapshot, hstore⟩
  rw [writeSlot_eq] at hx
  simp only [Pts.withSlot, Fin.getElem_fin, Vector.getElem_setIfInBounds] at hx
  split at hx
  · exact hp x hx
  · exact htable i x hx

theorem ownerProfileWrite_moves (slot state : Byte) (v : ProfileValues) :
    Moves s (ownerProfileWrite slot state v s).1 := by
  have hset (p : Option Profile) (hp : ∀ x, p = some x → x.maxFan ≤ 8) : Moves s (writeSlot slot p s) :=
    .of_move (.store (writeSlot_fans hp))
  unfold ownerProfileWrite
  split
  · exact hset none (by simp)
  split
  · refine hset _ fun x hx => ?_
    cases hx
    exact min_le_left 8 _
  · exact .refl

theorem ownerProfileCommit_moves : Moves s (ownerProfileCommit s).1 := by
  unfold ownerProfileCommit
  split
  · refine .of_move (.store fun ⟨htable, _, hstore⟩ => ⟨htable, fun t ht => ?_, hstore⟩)
    cases ht
    exact htable
  · exact .refl

theorem enterRun_moves : Moves s (enterRun s) := by
  have h : Moves s { s with moc := { s.moc with phase := .run } } := .of_move (.mode (.inr (.inl rfl)))
  exact ((h.trans (Moves.forBays reholdStandby_moves _)).trans (examineSteam_moves _)).trans
    (Moves.forBays examineAdmission_moves _)

theorem ownerPlantMode_moves (mode : Byte) : Moves s (ownerPlantMode mode s).1 := by
  unfold ownerPlantMode
  split
  · exact Moves.ite (fun _ => enterRun_moves s) fun _ => .refl
  split
  · exact Moves.ite (fun _ => .of_move .standby) fun _ => .refl
  split
  · unfold ownerPlantModeSleep
    split
    next h => exact .of_move (.sleep h.1 h.2)
    next => exact .refl
  · exact .refl

theorem restartBlc_moves : Moves s (restartBlc s) := by
  have h : Moves s { s with moc := { s.moc with pumpMode := .auto } } := .of_move (.mode (.inl rfl))
  exact (h.trans (coolBoiler_moves _)).trans (Moves.of_move (.boilerParts rfl rfl rfl (.inr (.inl rfl))))

/-- New records of the bay masters, one after the other. -/
theorem panels_moves (f : Bay → MasterState) : Moves s { s with panels := PerBay.ofFn f } := by
  have h0 := setMaster_moves_panel .b0 (f .b0) s
  have h1 := h0.trans (setMaster_moves_panel .b1 (f .b1) _)
  have h2 := h1.trans (setMaster_moves_panel .b2 (f .b2) _)
  exact h2.trans (setMaster_moves_panel .b3 (f .b3) _)

theorem restartEvents_moves : Moves s (restartEvents s) := by
  have h : Moves s { s with supervisor := setPending (supBit .restarted) s.supervisor } := .of_move (.events rfl)
  exact h.trans (panels_moves _ _)

theorem restartPlant_moves : Moves s (restartPlant s) := by
  have hbays : Moves s (forBays restartBay s) := Moves.forBays (fun _ _ => .of_bay .restart) s
  have hplant := (hbays.tail .restartPae).trans (restartBlc_moves _)
  generalize hu : restartBlc (restartPae (forBays restartBay s)) = u at hplant
  have hmode : Moves u { u with moc := { u.moc with resetCause := .warm } } := .of_move (.mode (.inl rfl))
  have hlink := hmode.trans (Moves.of_move (.link { u.pli with rx := .hunt }))
  rw [restartPlant, hu]
  exact (hplant.trans hlink).trans (restartEvents_moves _)

/-- The fill pump's mode, value and drive are changed together. -/
theorem pump_moves {m : Moc} (hm : m.phase = s.moc.phase) (drive : Bool) :
    Moves s { s with moc := m, blc := { s.blc with pumpDrive := drive } } := by
  have h : Moves s { s with moc := m } := .of_move (.mode (.inl hm))
  exact h.trans (Moves.of_move (.boilerParts rfl rfl rfl (.inl rfl)))

theorem ownerService_moves (index value : Byte) (o : OutputId) : Moves s (ownerService index value o s).1 := by
  unfold ownerService
  split
  · split
    · exact .of_bay (.outputs rfl rfl fun _ => ⟨min_le_left _ _, min_le_left _ _⟩)
    · exact .refl
  · split
    · exact .of_bay (.outputs rfl rfl id)
    · exact .refl
  · split
    · exact .of_bay (.outputs rfl rfl id)
    · exact .refl
  · split
    · exact pump_moves s (by rfl) _
    · exact .refl

/-- An output of a bay returns to AUTO, and admission may be examined. -/
theorem serviced_moves {o : BayOutputs} (h : BayMove b s (setOutputs b o s)) :
    Moves s (afterService b (setOutputs b o s)) := by
  have hset : Moves s (setOutputs b o s) := .of_bay h
  exact Moves.ite (fun _ => hset.trans (examineAdmission_moves b _)) fun _ => hset

theorem pumpToAuto_moves : Moves s (pumpToAuto s) := by
  refine Relation.ReflTransGen.trans ?_ (refill_moves _)
  refine Relation.ReflTransGen.trans ?_ (examineStart_moves _)
  exact pump_moves s (by rfl) _

theorem autoServiced_fan (o : Serviced Nat) (h : o.driven ≤ 8 ∧ o.service ≤ 8) :
    (autoServiced 0 o).driven ≤ 8 ∧ (autoServiced 0 o).service ≤ 8 := by
  unfold autoServiced
  split
  · exact ⟨Nat.zero_le 8, h.2⟩
  · exact h

theorem serviceToAuto_moves (o : OutputId) : Moves s (serviceToAuto o s) := by
  unfold serviceToAuto
  split
  · exact Moves.ite (fun _ => serviced_moves _ s (.outputs rfl rfl (autoServiced_fan _))) fun _ => .refl
  · exact Moves.ite (fun _ => serviced_moves _ s (.outputs rfl rfl id)) fun _ => .refl
  · exact Moves.ite (fun _ => serviced_moves _ s (.outputs rfl rfl id)) fun _ => .refl
  · exact Moves.ite (fun _ => pumpToAuto_moves s) fun _ => .refl

theorem ownerOutputService_moves (index mode value : Byte) : Moves s (ownerOutputService index mode value s).1 := by
  unfold ownerOutputService
  split
  · exact .refl
  split
  · exact serviceToAuto_moves s _
  split
  · exact ownerService_moves s _ _ _
  · exact .refl

theorem forBay_moves {f : Bay → State → State × Reply} (bay : Byte) (h : ∀ b, Moves s (f b s).1) :
    Moves s (forBay bay f s).1 := by
  unfold forBay
  split
  · exact h _
  · exact .refl

theorem perform_moves (r : Request) : Moves s (perform m r s).1 := by
  cases r with
  | ping | statusPlant | eventsRead | profileRead => exact .refl
  | statusBay bay _ | outcomeRead bay => exact forBay_moves s bay fun _ => .refl
  | eventsClear e => exact ownerEventsClear_moves m s e
  | eventsMask mask => exact ownerEventsMask_moves m s mask
  | stepAppend bay p rs => exact forBay_moves s bay fun b => ownerStepAppend_moves b s p rs
  | queueCancel bay => exact forBay_moves s bay fun b => ownerQueueCancel_moves b s
  | outcomeFree bay f => exact forBay_moves s bay fun b => ownerOutcomeFree_moves b s f
  | bayPause bay n => exact forBay_moves s bay fun b => ownerBayPause_moves b s n
  | bayResume bay n => exact forBay_moves s bay fun b => ownerBayResume_moves b s n
  | programAbort bay n => exact forBay_moves s bay fun b => ownerProgramAbort_moves b s n
  | budgetSet v => exact ownerBudgetSet_moves s v
  | profileWrite slot st v => exact ownerProfileWrite_moves s slot st v
  | profileCommit => exact ownerProfileCommit_moves s
  | plantMode mode => exact ownerPlantMode_moves s mode
  | warmRestart => exact restartPlant_moves s
  | outputService o mode v => exact ownerOutputService_moves s o mode v
  | bayClear bay => exact forBay_moves s bay fun b => ownerBayClear_moves b s
  | boilerClear => exact ownerBoilerClear_moves s

/-! ### The link -/

theorem becomePresent_moves : Moves s (becomePresent m s) := by
  cases m with
  | panel b =>
    have h := setMaster_moves_panel b { s.panels.get b with present := true, window := 0 } s
    exact Moves.ite (fun _ => h) fun _ => h.trans (examineAdmission_moves b _)
  | supervisor => exact Moves.ite (fun hp => .of_move (.events hp.symm)) fun _ => .of_move (.presence _)

theorem respond_moves (kind : Byte) (noise : Bool) (reply : Reply) : Moves s (respond m kind noise reply s) :=
  .of_move (.link _)

theorem endFrame_moves : Moves s (endFrame s) := .of_move (.link _)

theorem takeFrame_moves (kind : Byte) (k : Option ReqKind) (r : Option Request) (noise : Bool) :
    Moves s (takeFrame m kind k r noise s) := by
  have hheard : Moves s (heard m s) := (endFrame_moves s).trans (becomePresent_moves m _)
  refine Moves.ite (fun _ => Moves.ite (fun _ => hheard.trans ?_)
    fun _ => (endFrame_moves s).trans (respond_moves m _ _ _ _)) fun _ => .refl
  unfold answerFrame
  split
  · exact respond_moves m _ _ _ _
  · exact (perform_moves m _ _).trans (respond_moves m _ _ _ _)
  · exact .refl

theorem acceptFrame_moves (source kind : Byte) (payload : List Byte) (noise : Bool) :
    Moves s (acceptFrame source kind payload noise s) := by
  unfold acceptFrame
  split
  · exact Moves.ite (fun _ => endFrame_moves s) fun _ => .refl
  · exact takeFrame_moves _ s _ _ _ _

theorem linkFault_moves : Moves s (linkFault s) := raiseSup_moves .linkFault s

theorem setRx_moves (rx : Rx) : Moves s (setRx rx s) := .of_move (.link _)

theorem assemble_moves (c : RxChar) : Moves s (assemble c s) := by
  have h := setRx_moves s (rxMove c s.pli.rx).rx
  unfold assemble
  dsimp only
  split
  · exact Moves.ite (fun _ => h.trans (acceptFrame_moves _ _ _ _ _)) fun _ => h.trans (linkFault_moves _)
  · exact Moves.ite (fun _ => h.trans (linkFault_moves _)) fun _ => h

theorem sleepChar_moves {s : State} (c : RxChar) (h : s.moc.phase = .sleep) : Moves s (sleepChar c s) :=
  Moves.ite (fun _ => .of_move (.wake h)) fun _ => .refl

theorem inTurnaround_moves {c : RxChar} {retake : State → State}
    (h : ∀ t, t.moc = s.moc → Moves t (retake t)) : Moves s (inTurnaround c retake s) :=
  Moves.ite (fun _ => (Relation.ReflTransGen.trans (Moves.of_move (.link _)) (linkFault_moves _)).trans (h _ rfl))
    fun _ => .refl

theorem takeChar_moves (c : RxChar) : Moves s (takeChar c s) := by
  unfold takeChar
  split
  next => exact .refl
  next => exact Moves.ite (fun _ => setRx_moves s _) fun _ => Moves.ite (fun _ => setRx_moves s _) fun _ => .refl
  next hs =>
    exact Moves.ite (fun _ => inTurnaround_moves s fun t ht => sleepChar_moves c (by rw [ht, hs]))
      fun _ => sleepChar_moves c hs
  all_goals exact Moves.ite (fun _ => inTurnaround_moves s fun t _ => assemble_moves t c) fun _ => assemble_moves s c

theorem sendResponse_moves : Moves s (sendResponse s) := by
  unfold sendResponse
  split
  · exact .of_move (.link _)
  · exact .refl

theorem expirePresence_moves : Moves s (expirePresence m s) := by
  cases m with
  | supervisor =>
    exact .of_move (.presence (raiseBits (supBit .masterLost)
      { s.supervisor with present := false, window := windowMs .supervisor }))
  | panel b =>
    exact ((setMaster_moves_panel b _ s).trans (raiseSup_moves _ _)).trans (enterParking_moves b _ _)

end

/-! ### Publications -/

theorem creditBay_moves (credits : PerBay Nat) (b : Bay) (s : State) : Moves s (creditBay credits b s) := by
  unfold creditBay
  dsimp only
  split
  next x n hx hn =>
    have hcount : SameStep x { x with delivered := x.delivered + (n + 1) } := ⟨rfl, rfl, rfl, rfl⟩
    refine Moves.ite (fun hl => ?_) fun _ => .of_bay (.count hx hcount)
    have hrun : ∃ c, runningCopy (s.bsq.get b) = some c := by
      refine Option.ne_none_iff_exists'.mp fun hnone => ?_
      simp [steamLacking, hx, hnone] at hl
    obtain ⟨c, hc⟩ := hrun
    exact countThenEnd_moves .done hc hx hcount
  next => exact .refl

theorem takeSteam_moves (s : State) : Moves s (takeSteam s) := by
  have hmark : Moves s { s with untaken := { s.untaken with blc := false } } := .of_move (.untaken _)
  refine Moves.ite (fun hr => ?_) fun _ => ?_
  · refine Relation.ReflTransGen.trans ?_ (Moves.forBays (creditBay_moves _) _)
    exact hmark.tail (.boilerParts rfl rfl rfl (.inr (.inr ⟨hr.1, Nat.mod_lt _ (by decide)⟩)))
  · exact hmark.tail (.boilerParts rfl rfl rfl (.inl rfl))

theorem takeHeaters_moves (s : State) : Moves s (takeHeaters s) :=
  (Moves.of_move (.untaken _)).trans (Moves.forBays (fun _ _ => .of_bay .heater) _)

theorem takePower_moves (b : Bay) (s : State) : Moves s (takePower b s) :=
  (Moves.of_move (.untaken _)).trans (reholdPower_moves b _)

/-! ### Samples -/

/-- The consumers of a switch other than a bay front and the condensate tank. -/
theorem consumeEdge_moves {sw : Switch} {e : Edge} {s : State} (hfront : ∀ b, sw ≠ .front b)
    (hcond : sw = .condFull → e = .falling) : Moves s (consumeEdge sw e s) := by
  cases sw with
  | front b => exact absurd rfl (hfront b)
  | boilerWaterOk =>
    cases e with
    | rising =>
      change Moves s (waterOk s)
      unfold waterOk
      split
      next hs => exact enterHeat_moves (by simp [hs]) (.inr (by simp [hs]))
      next => exact examineStart_moves s
      next => exact .refl
    | falling =>
      refine Moves.ite (fun hhot => ?_) fun _ => .refl
      rcases (isHot_iff _).mp hhot with hs | hs
      · exact towardsFill_moves (by simp [hs]) (.inr (by simp [hs]))
      · exact towardsFill_moves (by simp [hs]) (.inr (by simp [hs]))
  | boilerCutout =>
    cases e with
    | rising => exact .of_move (.lock (by decide))
    | falling => exact examineStart_moves s
  | freshLow =>
    cases e with
    | rising => exact raiseSup_moves .freshLow s
    | falling => exact .refl
  | freshEmpty =>
    cases e with
    | rising =>
      have h := raiseSup_moves .freshEmpty s
      refine Moves.ite (fun hs => h.tail (.boiler (by decide) ?_ (.inr (.inr ?_)))) fun _ => h
      · rw [hs]; decide
      · rw [hs]; decide
    | falling => exact refill_moves s
  | condFull =>
    obtain rfl := hcond rfl
    exact Moves.forBays reholdTank_moves s

/-- The state with the sample of a switch in its filter (R132). -/
def withSwitch (sw : Switch) (level : Bool) (s : State) : State :=
  { s with
    snu := { setSwitch sw (filterSample (switchOf s.snu sw) level) s.snu with switchDue := s.snu.switchDue.erase sw } }

theorem takeSwitch_eq (sw : Switch) (level : Bool) (s : State) :
    takeSwitch sw level s =
      match filterEdge (switchOf s.snu sw) (filterSample (switchOf s.snu sw) level) with
      | some e => consumeEdge sw e (withSwitch sw level s)
      | none => withSwitch sw level s := rfl

theorem filterEdge_none {old new : SwitchFilter} (h : filterEdge old new = none) : new.filtered = old.filtered := by
  unfold filterEdge at h
  split at h
  next heq => exact heq.symm
  next => split at h <;> cases h

theorem filterEdge_some {old new : SwitchFilter} {e : Edge} (h : filterEdge old new = some e) :
    new.filtered = decide (e = .rising) ∧ old.filtered ≠ new.filtered := by
  unfold filterEdge at h
  split at h
  next => cases h
  next hne =>
    refine ⟨?_, hne⟩
    split at h <;> cases h <;> simp [*]

/-- The sample of a switch that holds no started step, no valve and no compressor back. -/
theorem withSwitch_moves {sw : Switch} {level : Bool} {s : State}
    (hfront : ∀ b, sw = .front b →
      (filterSample (switchOf s.snu sw) level).filtered = (switchOf s.snu sw).filtered)
    (hcond : sw = .condFull → (filterSample (switchOf s.snu sw) level).filtered = true →
      (switchOf s.snu sw).filtered = true) : Moves s (withSwitch sw level s) := by
  refine .of_move (.senses (fun c => ?_) ?_ ?_)
  · cases sw with
    | front b =>
      by_cases hc : c = b
      · subst hc
        simpa [setSwitch, switchOf] using hfront c rfl
      · simp [setSwitch, hc]
    | _ => rfl
  · cases sw <;> rfl
  · cases sw with
    | condFull => exact hcond rfl
    | _ => exact id

theorem takeSwitch_moves (sw : Switch) (level : Bool) (s : State) : Moves s (takeSwitch sw level s) := by
  rw [takeSwitch_eq]
  split
  next e he =>
    obtain ⟨hnew, hne⟩ := filterEdge_some he
    by_cases hfront : ∃ b, sw = .front b
    · obtain ⟨b, rfl⟩ := hfront
      exact .of_move (.front b (fun c hc => PerBay.get_set_other _ _ hc) rfl rfl)
    have hnofront : ∀ b, sw ≠ .front b := fun b hb => hfront ⟨b, hb⟩
    by_cases htank : sw = .condFull ∧ e = .rising
    · obtain ⟨rfl, rfl⟩ := htank
      refine Relation.ReflTransGen.trans ?_ (Moves.forBays reholdTank_moves _)
      exact (raiseSup_moves .condFull s).tail (.tankFull rfl rfl)
    have hfalling : sw = .condFull → e = .falling := fun hsw => by
      cases e with
      | rising => exact absurd ⟨hsw, rfl⟩ htank
      | falling => rfl
    refine (withSwitch_moves (fun b hb => absurd hb (hnofront b)) fun hsw ht => ?_).trans
      (consumeEdge_moves hnofront hfalling)
    rw [hnew, hfalling hsw] at ht
    cases ht
  next hnone =>
    have hsame := filterEdge_none hnone
    exact withSwitch_moves (fun _ _ => hsame) fun _ ht => by rw [← hsame]; exact ht

theorem channelFault_moves (b : Bay) (old new : Channel) (s : State) : Moves s (channelFault b old new s) := by
  refine Moves.ite (fun _ => ?_) fun _ => .refl
  refine (raiseSup_moves .sensorFault s).trans ?_
  unfold baySensorFault
  split
  next hs => exact Moves.of_bay (.parkCount _ _ true hs)
  next => exact enterParking_moves b _ _

theorem compareGoal_moves (kind : StepKind) (b : Bay) (new : Channel) (s : State) :
    Moves s (compareGoal kind b new s) := by
  unfold compareGoal
  split
  next k x hk hx =>
    refine Moves.ite (fun _ => ?_) fun _ => .refl
    split
    next target _ =>
      have hcount (n : Nat) : SameStep x { x with satisfied := n } := ⟨rfl, rfl, rfl, rfl⟩
      exact Moves.ite (fun _ => countThenEnd_moves .done hk hx (hcount _)) fun _ => .of_bay (.count hx (hcount _))
    next => exact .refl
  next => exact .refl

theorem parkSample_moves (b : Bay) (s : State) : Moves s (parkSample b s) :=
  Moves.ite (fun h => endPark_moves h.1) fun _ => .refl

theorem channelBack_moves (b : Bay) (old new : Channel) (s : State) : Moves s (channelBack b old new s) :=
  Moves.ite (fun _ => examineAdmission_moves b s) fun _ => .refl

theorem compareBoiler_moves (v : Nat) (s : State) : Moves s (compareBoiler v s) := by
  refine Moves.ite (fun _ => .of_move (.lock (by decide))) fun _ => Moves.ite (fun h => ?_) fun _ =>
    Moves.ite (fun h => ?_) fun _ => .refl
  · exact .of_move (.boiler (by decide) (by simp [h.1]) (.inr (.inr (by simp [h.1]))))
  · exact .of_move (.boiler (by decide) (by simp [h.1]) (.inr (.inr (by simp [h.1]))))

theorem consumeBoiler_moves (old new : Channel) (s : State) : Moves s (consumeBoiler old new s) := by
  unfold consumeBoiler
  refine Moves.ite (fun _ => (raiseSup_moves _ s).tail (.lock (by decide))) fun _ => ?_
  cases validValue new with
  | none => exact Moves.ite (fun _ => examineStart_moves s) fun _ => .refl
  | some v =>
    exact Moves.ite (fun _ => (compareBoiler_moves v s).trans (examineStart_moves _)) fun _ => compareBoiler_moves v s

theorem takeAnalog_moves (ch : Analog) (raw : BitVec 10) (s : State) : Moves s (takeAnalog ch raw s) := by
  cases ch with
  | bayTemperature b =>
    refine Relation.ReflTransGen.trans ?_ (channelBack_moves b _ _ _)
    refine Relation.ReflTransGen.trans ?_ (parkSample_moves b _)
    refine Relation.ReflTransGen.trans ?_ (compareGoal_moves _ b _ _)
    exact Moves.of_move (.temperature b _ rfl rfl rfl)
  | bayHumidity b =>
    have h : Moves s (withConversion (.bayHumidity b) raw s) := .of_move (.senses (fun _ => rfl) rfl id)
    exact ((h.trans (channelFault_moves b _ _ _)).trans (compareGoal_moves _ b _ _)).trans (channelBack_moves b _ _ _)
  | boilerTemperature =>
    have h : Moves s (withConversion .boilerTemperature raw s) := .of_move (.senses (fun _ => rfl) rfl id)
    exact h.trans (consumeBoiler_moves _ _ _)

/-! ### Timers -/

theorem expireStep_moves (b : Bay) (s : State) : Moves s (expireStep b s) := by
  unfold expireStep
  split
  next c x hc hx => exact countThenEnd_moves _ hc hx ⟨rfl, rfl, rfl, rfl⟩
  next => exact .refl

theorem expireStall_moves (b : Bay) (s : State) : Moves s (expireStall b s) := by
  unfold expireStall
  split
  next x hx =>
    have hcount : SameStep x { x with stallTimer := stallMs } := ⟨rfl, rfl, rfl, rfl⟩
    exact (Moves.of_bay (.count hx hcount)).trans (enterParking_moves b _ _)
  next => exact .refl

theorem expirePark_moves (b : Bay) (limit : ParkLimit) (s : State) : Moves s (expirePark b limit s) := by
  refine Moves.ite (fun hs => ?_) fun _ => .refl
  have hcount (timer : Nat) (taken : Bool) :
      Moves s (setBsq b { s.bsq.get b with parkTimer := timer, parkMinTaken := taken } s) :=
    .of_bay (.parkCount timer taken _ hs)
  cases limit with
  | minimum =>
    exact Moves.ite (fun _ => .refl) fun _ =>
      Moves.ite (fun _ => (hcount _ _).trans (endPark_moves (by simpa using hs))) fun _ => hcount _ _
  | maximum => exact (hcount _ _).trans (endPark_moves (by simpa using hs))

theorem setPts_moves {p : Pts} {s : State} (h : PtsFans s.pts → PtsFans p) : Moves s (setPts p s) :=
  .of_move (.store h)

theorem commitFails_moves (s : State) : Moves s (commitFails s) := by
  refine Relation.ReflTransGen.trans (Moves.of_move (.store fun ⟨htable, _, hstore⟩ => ?_)) (raiseSup_moves _ _)
  exact ⟨htable, fun t ht => (nomatch ht), hstore⟩

theorem endPhase_moves (pass : Bool) (s : State) : Moves s (endPhase pass s) := by
  unfold endPhase
  split
  · exact .refl
  · exact setPts_moves fun ⟨htable, hsnap, _⟩ => ⟨htable, hsnap, fun t ht => (nomatch ht)⟩
  · exact Moves.ite (fun _ => setPts_moves id) fun _ =>
      Moves.ite (fun _ => commitFails_moves s) fun _ => setPts_moves id
  · exact setPts_moves fun ⟨htable, hsnap, _⟩ => ⟨htable, hsnap, hsnap⟩
  · exact Moves.ite (fun _ => setPts_moves id) fun _ =>
      Moves.ite (fun _ => commitFails_moves s) fun _ => setPts_moves id
  · refine Relation.ReflTransGen.trans (Moves.of_move (.store fun ⟨htable, hsnap, _⟩ => ?_)) (raiseSup_moves _ _)
    exact ⟨htable, fun t ht => (nomatch ht), hsnap⟩

/-! ### Every command, and a step -/

theorem endSettling_moves {s : State} (h : s.moc.phase = .settling) : Moves s (endSettling s) := by
  refine Relation.ReflTransGen.trans ?_ (raiseSup_moves _ _)
  have hmode : Moves s { s with moc := { s.moc with phase := .standby, timer := settlingMs } } :=
    .of_move (.mode (.inr (.inr ⟨h, rfl⟩)))
  exact hmode.tail (.roundTimer 0)

theorem endStartup_moves (s : State) : Moves s (endStartup s) := by
  have hmode : Moves s { s with moc := { s.moc with phase := .run, timer := startUpMs } } :=
    .of_move (.mode (.inr (.inl rfl)))
  exact (hmode.tail (.roundTimer 0)).tail (.link _)

/-- Each command answers a next state, reached by moves. -/
theorem exec_moves (c : Instr) (s : State) : ∃ t, exec c s = .next t ∧ Moves s t := by
  cases c with
  | powerOnReset straps => exact ⟨_, rfl, .of_move (.reset .powerOn straps)⟩
  | pinReset straps => exact ⟨_, rfl, .of_move (.reset .pin straps)⟩
  | startupEnd => exact ⟨_, rfl, Moves.ite (fun _ => endStartup_moves s) fun _ => .refl⟩
  | linkCharacter c =>
    change ∃ t, execLinkCharacter c s = .next t ∧ Moves s t
    unfold execLinkCharacter
    split
    · exact ⟨_, rfl, takeChar_moves s _⟩
    · exact ⟨_, rfl, .refl⟩
  | idleGapExpiry =>
    exact ⟨_, rfl, Moves.ite (fun _ => (setRx_moves s .hunt).trans (linkFault_moves _)) fun _ => .refl⟩
  | unknownSourceFrame source kind payload noise => exact ⟨_, rfl, acceptFrame_moves s _ _ _ _⟩
  | unknownKindRequest m kind payload noise => exact ⟨_, rfl, acceptFrame_moves s _ _ _ _⟩
  | responseSend => exact ⟨_, rfl, sendResponse_moves s⟩
  | echoMismatch n readBack =>
    change ∃ t, execEchoMismatch n readBack s = .next t ∧ Moves s t
    unfold execEchoMismatch
    split
    · split
      · refine ⟨_, rfl, Moves.ite (fun _ => ?_) fun _ => .refl⟩
        exact Relation.ReflTransGen.trans (Moves.of_move (.link _)) (linkFault_moves _)
      · exact ⟨_, rfl, .refl⟩
    · exact ⟨_, rfl, .refl⟩
  | presenceExpiry m => exact ⟨_, rfl, Moves.ite (fun _ => expirePresence_moves m s) fun _ => .refl⟩
  | ping | statusPlant | statusBay | eventsRead | eventsClear | eventsMask | stepAppend | queueCancel | outcomeRead
  | outcomeFree | bayPause | bayResume | programAbort | budgetSet | profileRead | profileWrite | profileCommit
  | plantModeRun | plantModeStandby | plantModeSleep | warmRestart | outputService | outputServiceAuto | bayClear
  | boilerClear => exact ⟨_, rfl, takeFrame_moves _ s _ _ _ _⟩
  | wake => exact ⟨_, rfl, Moves.ite (fun h => .of_move (.wake h.1)) fun _ => .refl⟩
  | wakeSettlingEnd => exact ⟨_, rfl, Moves.ite (fun h => endSettling_moves h) fun _ => .refl⟩
  | allotmentRound => exact ⟨_, rfl, Moves.ite (fun h => .of_move (.round h)) fun _ => .refl⟩
  | steamYield => exact ⟨_, rfl, takeSteam_moves s⟩
  | heaterDriveUpdate => exact ⟨_, rfl, takeHeaters_moves s⟩
  | noPowerReevaluation b => exact ⟨_, rfl, takePower_moves b s⟩
  | switchSample sw level => exact ⟨_, rfl, Moves.ite (fun _ => takeSwitch_moves sw level s) fun _ => .refl⟩
  | analogSample ch raw => exact ⟨_, rfl, Moves.ite (fun _ => takeAnalog_moves ch raw s) fun _ => .refl⟩
  | stepDurationExpiry b => exact ⟨_, rfl, expireStep_moves b s⟩
  | stall b => exact ⟨_, rfl, Moves.ite (fun _ => expireStall_moves b s) fun _ => .refl⟩
  | parkTimer b limit => exact ⟨_, rfl, expirePark_moves b limit s⟩
  | fillTimeout =>
    exact ⟨_, rfl, Moves.ite
      (fun h => .of_move (.boiler (by decide) (by simp [h]) (.inr (.inr (by simp [h]))))) fun _ => .refl⟩
  | idleCooldown =>
    refine ⟨_, rfl, Moves.ite (fun h => .of_move (.boiler (by decide) ?_ (.inl rfl))) fun _ => .refl⟩
    rcases ((cooldownCounts_iff s).mp h).1 with hs | hs <;> simp [hs]
  | commitPhaseEnd pass => exact ⟨_, rfl, endPhase_moves pass s⟩

theorem spendFree_moves (c : Instr) (s : State) : Moves s (spendFree c s) := by
  unfold spendFree
  split
  · exact .of_move (.queue _ _)
  · exact .refl

/-- A step is a chain of moves. -/
theorem step_moves {s t : State} (h : step s = .next t) : Moves s t := by
  have hexec {c : Instr} {u : State} (hc : exec c u = .next t) (hu : Moves s u) : Moves s t := by
    obtain ⟨v, hv, hmoves⟩ := exec_moves c u
    obtain rfl : v = t := by simpa [hv] using hc
    exact hu.trans hmoves
  unfold step at h
  split at h
  · exact hexec h (.of_move (.queue _ _))
  · unfold idleStep at h
    split at h
    · exact hexec h (spendFree_moves _ s)
    · cases h
      exact .of_move .tick

/-- A law that every move keeps is kept by every step. -/
theorem keptByStep_of_moves {law : State → Prop} (hlaw : ∀ {s t : State}, Move s t → law s → law t) :
    KeptByStep law :=
  fun _ _ hs h => (step_moves h).keep hlaw hs

end Sys2Proof.Machine
end

section
/-! What the moves of one bay are made of: their frame, their effect on the grant table, and the forms that a new hold set
and the start of a step can take. -/

namespace Sys2Proof.Machine

/-! ### Their frame -/

theorem programAdmitted_frame (b : Bay) (program : List StepRecord) (s : State) :
    BayFrame b s (programAdmitted b program s) :=
  ((setOutcomes_frame b _ s).trans (setRing_frame b _ _)).trans (setBsq_frame b _ _)

theorem programEnded_frame (b : Bay) (result : Result) (x : Context) (s : State) :
    BayFrame b s (programEnded b result x s) :=
  (((withdrawAux_frame b s).trans (postOutcome_frame b _ _ _)).trans (removeStep_frame b _)).trans (becomeIdle_frame b _)

theorem stepNotified_frame (b : Bay) (result : Result) (x : Context) (s : State) :
    BayFrame b s (stepNotified b result x s) :=
  .ite (fun _ => postOutcome_frame b _ _ s) fun _ => .refl b s

theorem stepGivesWay_frame (b : Bay) (result : Result) (x : Context) (s : State) :
    BayFrame b s (stepGivesWay b result x s) :=
  (((withdrawAux_frame b s).trans (stepNotified_frame b _ _ _)).trans (removeStep_frame b _)).trans
    (enterStep_frame b _ _)

theorem parkEnded_frame (b : Bay) (s : State) : BayFrame b s (parkEnded b s) :=
  (((closeProgram_frame b s).trans (setBsq_frame b _ _)).trans (raisePanel_frame b _ _)).trans (driveBay_frame b _)

theorem setMaster_panel_frame (b : Bay) (x : MasterState) (s : State) : BayFrame b s (setMaster (.panel b) x s) := by
  constructor <;> intros <;> simp [setMaster, *]

theorem BayMove.frame {b : Bay} {s t : State} (h : BayMove b s t) : BayFrame b s t := by
  cases h with
  | panel x => exact setMaster_panel_frame b x s
  | holds h => exact changeHolds_frame b h s
  | count => exact setContext_frame b _ s
  | start => exact startStep_frame b s
  | givesWay => exact stepGivesWay_frame b _ _ s
  | ends => exact programEnded_frame b _ _ s
  | reject => exact rejectProgram_frame b _ _ _ _ s
  | accept => exact (programAdmitted_frame b _ s).trans (enterStep_frame b 0 _)
  | park => exact enterParking_frame b _ s
  | parkCount => exact setBsq_frame b _ s
  | parkEnds => exact parkEnded_frame b s
  | clear => exact ((setBsq_frame b _ s).trans (raisePanel_frame b _ _)).trans (driveBay_frame b _)
  | append => exact setRing_frame b _ s
  | cancel =>
    have h : BayFrame b s (withoutBehind b s) := setRing_frame b _ s
    exact h.trans (postOutcome_frame b _ _ _)
  | free => exact setOutcomes_frame b _ s
  | outputs => exact setOutputs_frame b _ s
  | heater => exact setOutputs_frame b _ s
  | restart => exact restartBay_frame s b

/-! ### A new hold set, and the start of a step -/

/-- The state in which a bay whose step has been held or released is driven anew. -/
def holdsMoved (b : Bay) (h : HoldSet) (state : BayState) (x : Context) (s : State) : State :=
  raisePanel b .stateChange <| raisePanel b .holdChange <|
    setBsq b { s.bsq.get b with holds := h, state := state, context := some x } s

/-- The forms that putting a new hold set takes (R40, R46, R52, R54, R57). -/
inductive HoldsForm (b : Bay) (h : HoldSet) (s : State) : State → Prop
  | same : HoldsForm b h s s
  | kept (hs : (s.bsq.get b).state = .running ∧ h = HoldSet.empty ∨ (s.bsq.get b).state = .held ∧ h ≠ HoldSet.empty) :
      HoldsForm b h s (raisePanel b .holdChange (setBsq b { s.bsq.get b with holds := h } s))
  | held {x : Context} (hx : (s.bsq.get b).context = some x) (hs : (s.bsq.get b).state = .running)
      (hh : h ≠ HoldSet.empty) :
      HoldsForm b h s (driveBay b (withdrawAux b (holdsMoved b h .held { x with satisfied := 0 } s)))
  | released {x : Context} (hx : (s.bsq.get b).context = some x) (hs : (s.bsq.get b).state = .held)
      (hh : h = HoldSet.empty) :
      HoldsForm b h s (driveBay b (holdsMoved b h .running { x with stallTimer := 0 } s))

theorem changeHolds_form (b : Bay) (h : HoldSet) (s : State) : HoldsForm b h s (changeHolds b h s) := by
  unfold changeHolds
  dsimp only
  split
  · exact .same
  split
  next x hs hx =>
    split
    next he => exact .kept (.inl ⟨hs, of_decide_eq_true he⟩)
    next he => exact .held hx hs fun h0 => he (decide_eq_true h0)
  next x hs hx =>
    split
    next he => exact .released hx hs (of_decide_eq_true he)
    next he => exact .kept (.inr ⟨hs, fun h0 => he (decide_eq_true h0)⟩)
  next => exact .same

theorem changeHolds_of_ne {b : Bay} {h : HoldSet} {s : State} {x : Context}
    (hs : (s.bsq.get b).state = .running ∨ (s.bsq.get b).state = .held) (hx : (s.bsq.get b).context = some x) :
    ((changeHolds b h s).bsq.get b).holds = h := by
  by_cases hh : (s.bsq.get b).holds = h
  · simp [changeHolds, hh]
  rcases hs with hs | hs <;> simp only [changeHolds, hh, if_false, hs, hx] <;> split <;> simp

/-- The state in which a bay whose step starts is driven anew (R45). -/
def stepSettled (b : Bay) (x : Context) (h : HoldSet) (s : State) : State :=
  let s1 := raisePanel b .stateChange
    (setBsq b { s.bsq.get b with state := if holdsEmpty h then .running else .held, holds := h, context := some x } s)
  if (s.bsq.get b).holds = h then s1 else raisePanel b .holdChange s1

theorem settleStart_eq (b : Bay) (x : Context) (h : HoldSet) (s : State) :
    settleStart b x h s = driveBay b (stepSettled b x h s) := rfl

/-- The start of a step, which needs its copy (R45). -/
inductive StartForm (b : Bay) (s : State) : State → Prop
  | none (hc : currentCopy (s.bsq.get b) = none) : StartForm b s s
  | starts {x : Context} {c : StepCopy} (hx : (s.bsq.get b).context = some x) (hc : contextCopy x = some c) :
      StartForm b s (driveBay b (stepSettled b (zeroStep x) (formHolds b x c s) (promiseStep b x s)))

theorem startStep_form (b : Bay) (s : State) : StartForm b s (startStep b s) := by
  unfold startStep
  split
  next x hx =>
    split
    next c hc => exact .starts hx hc
    next hc => exact .none (by simp [currentCopy, hx, hc])
  next hx => exact .none (by simp [currentCopy, hx])

/-- The context of a step as it is entered (R43). -/
def enteredContext (index : Nat) (x : Context) : Context := { zeroStep x with index := index, heldTime := 0 }

/-- The state with a step entered, before it waits or starts (R43). -/
def stepEntered (b : Bay) (index : Nat) (x : Context) (s : State) : State :=
  raisePanel b .stateChange (setContext b (some (enteredContext index x)) s)

/-- The entry of a step (R43). -/
inductive EnterForm (b : Bay) (index : Nat) (s : State) : State → Prop
  | none (hx : (s.bsq.get b).context = none) : EnterForm b index s s
  | waits {x : Context} (hx : (s.bsq.get b).context = some x)
      (hw : mustWait b (enteredContext index x) (stepEntered b index x s) = true) :
      EnterForm b index s (driveBay b (setBsq b
        { (stepEntered b index x s).bsq.get b with state := .waiting, holds := HoldSet.empty }
        (stepEntered b index x s)))
  | starts {x : Context} (hx : (s.bsq.get b).context = some x)
      (hw : mustWait b (enteredContext index x) (stepEntered b index x s) = false) :
      EnterForm b index s (startStep b (stepEntered b index x s))

theorem enterStep_form (b : Bay) (index : Nat) (s : State) : EnterForm b index s (enterStep b index s) := by
  unfold enterStep
  split
  next x hx =>
    dsimp only
    split
    next hw => exact .waits hx hw
    next hw => exact .starts hx (Bool.eq_false_iff.mpr hw)
  next hx => exact .none hx

/-! ### What they leave of the parts they do not touch -/

section
variable (b : Bay) (s : State)

@[simp] theorem holdsMoved_pae (h : HoldSet) (state : BayState) (x : Context) :
    (holdsMoved b h state x s).pae = s.pae := by simp [holdsMoved]

@[simp] theorem holdsMoved_alc (h : HoldSet) (state : BayState) (x : Context) :
    (holdsMoved b h state x s).alc = s.alc := by simp [holdsMoved]

@[simp] theorem holdsMoved_bsq (h : HoldSet) (state : BayState) (x : Context) :
    (holdsMoved b h state x s).bsq =
      s.bsq.set b { s.bsq.get b with holds := h, state := state, context := some x } := by simp [holdsMoved]

@[simp] theorem stepSettled_pae (x : Context) (h : HoldSet) : (stepSettled b x h s).pae = s.pae := by
  unfold stepSettled
  dsimp only
  split <;> simp

@[simp] theorem stepSettled_alc (x : Context) (h : HoldSet) : (stepSettled b x h s).alc = s.alc := by
  unfold stepSettled
  dsimp only
  split <;> simp

@[simp] theorem stepSettled_srs (x : Context) (h : HoldSet) : (stepSettled b x h s).srs = s.srs := by
  unfold stepSettled
  dsimp only
  split <;> simp

@[simp] theorem stepSettled_oau (x : Context) (h : HoldSet) : (stepSettled b x h s).oau = s.oau := by
  unfold stepSettled
  dsimp only
  split <;> simp

@[simp] theorem stepSettled_bsq (x : Context) (h : HoldSet) :
    (stepSettled b x h s).bsq = s.bsq.set b { s.bsq.get b with
      state := if holdsEmpty h then .running else .held, holds := h, context := some x } := by
  unfold stepSettled
  dsimp only
  split <;> simp

@[simp] theorem promiseStep_pae (x : Context) : (promiseStep b x s).pae = s.pae := by
  unfold promiseStep
  split <;> rfl

@[simp] theorem promiseStep_alc (x : Context) : (promiseStep b x s).alc = s.alc := by
  unfold promiseStep
  split <;> rfl

@[simp] theorem promiseStep_bsq (x : Context) : (promiseStep b x s).bsq = s.bsq := by
  unfold promiseStep
  split <;> rfl

@[simp] theorem promiseStep_srs (x : Context) : (promiseStep b x s).srs = s.srs := by
  unfold promiseStep
  split <;> rfl

@[simp] theorem emptyHolds_pae : (emptyHolds b s).pae = s.pae := by
  unfold emptyHolds
  split <;> simp

@[simp] theorem emptyHolds_alc : (emptyHolds b s).alc = s.alc := by
  unfold emptyHolds
  split <;> simp

@[simp] theorem emptyHolds_bsq :
    (emptyHolds b s).bsq = s.bsq.set b { s.bsq.get b with holds := HoldSet.empty } := by
  unfold emptyHolds
  split
  next h =>
    refine PerBay.ext_get fun c => ?_
    by_cases hc : c = b
    · subst hc
      simp [← h]
    · simp [hc]
  next => simp

@[simp] theorem stepEntered_pae (index : Nat) (x : Context) : (stepEntered b index x s).pae = s.pae := by
  simp [stepEntered]

@[simp] theorem stepEntered_alc (index : Nat) (x : Context) : (stepEntered b index x s).alc = s.alc := by
  simp [stepEntered]

@[simp] theorem stepEntered_srs (index : Nat) (x : Context) : (stepEntered b index x s).srs = s.srs := by
  simp [stepEntered]

@[simp] theorem stepEntered_oau (index : Nat) (x : Context) : (stepEntered b index x s).oau = s.oau := by
  simp [stepEntered]

@[simp] theorem stepEntered_bsq (index : Nat) (x : Context) :
    (stepEntered b index x s).bsq =
      s.bsq.set b { s.bsq.get b with context := some (enteredContext index x) } := by
  simp [stepEntered, setContext]

theorem startStep_pae : (startStep b s).pae = s.pae := by
  have h := startStep_form b s
  generalize startStep b s = t at h ⊢
  cases h with
  | none => rfl
  | starts => simp

theorem enterStep_pae (index : Nat) : (enterStep b index s).pae = s.pae := by
  have h := enterStep_form b index s
  generalize enterStep b index s = t at h ⊢
  cases h with
  | none => rfl
  | waits => simp
  | starts => simp [startStep_pae]

theorem closeProgram_pae : (closeProgram b s).pae = s.pae := by
  unfold closeProgram
  split
  · split
    · simp [postOutcome_pae]
    · rfl
  · rfl

theorem closeProgram_alc : (closeProgram b s).alc = s.alc := by
  unfold closeProgram
  split
  · split
    · simp [postOutcome_alc]
    · rfl
  · rfl

theorem removeStep_pae : (removeStep b s).pae = s.pae := rfl
theorem removeStep_alc : (removeStep b s).alc = s.alc := rfl
theorem removeStep_bsq : (removeStep b s).bsq = s.bsq := rfl
theorem removeStep_oau : (removeStep b s).oau = s.oau := rfl

theorem stepNotified_pae (result : Result) (x : Context) : (stepNotified b result x s).pae = s.pae := by
  unfold stepNotified
  split
  · exact postOutcome_pae b _ _ s
  · rfl

theorem stepNotified_alc (result : Result) (x : Context) : (stepNotified b result x s).alc = s.alc := by
  unfold stepNotified
  split
  · exact postOutcome_alc b _ _ s
  · rfl

theorem stepNotified_bsq (result : Result) (x : Context) : (stepNotified b result x s).bsq = s.bsq := by
  unfold stepNotified
  split
  · exact postOutcome_bsq b _ _ s
  · rfl

theorem becomeIdle_pae : (becomeIdle b s).pae = s.pae := by simp [becomeIdle]

theorem becomeIdle_bsq : (becomeIdle b s).bsq =
    s.bsq.set b { s.bsq.get b with state := .idle, context := none, holds := HoldSet.empty } := by simp [becomeIdle]

end

/-! ### The grant table -/

/-- A bay's move leaves the power allotment as it is, or with the bay's heater entry withdrawn. -/
def GrantsKept (b : Bay) (s t : State) : Prop := t.pae = s.pae ∨ t.pae = (withdrawAux b s).pae

theorem withdrawAux_pae_congr {b : Bay} {s t : State} (h : t.pae = s.pae) :
    (withdrawAux b t).pae = (withdrawAux b s).pae := by
  simp [withdrawAux, h]

theorem programEnded_pae (b : Bay) (result : Result) (x : Context) (s : State) :
    (programEnded b result x s).pae = (withdrawAux b s).pae := by
  rw [programEnded, becomeIdle_pae, removeStep_pae, postOutcome_pae]

theorem stepGivesWay_pae (b : Bay) (result : Result) (x : Context) (s : State) :
    (stepGivesWay b result x s).pae = (withdrawAux b s).pae := by
  rw [stepGivesWay, enterStep_pae, removeStep_pae, stepNotified_pae]

theorem enterParking_pae {b : Bay} {s : State} (result : ParkResult) (h : inProgress (s.bsq.get b) = true) :
    (enterParking b result s).pae = (withdrawAux b s).pae := by
  rw [enterParking, if_pos h, driveBay_pae]
  exact withdrawAux_pae_congr (by simp)

theorem restartBay_pae (b : Bay) (s : State) : (restartBay b s).pae = (withdrawAux b s).pae := by
  unfold restartBay
  dsimp only
  split
  · rw [driveBay_pae]
    exact withdrawAux_pae_congr (by simp)
  · rw [formDemand_pae]
    exact withdrawAux_pae_congr (by simp)

theorem parkEnded_pae (b : Bay) (s : State) : (parkEnded b s).pae = s.pae := by
  simp [parkEnded, closeProgram_pae]

theorem BayMove.grants {b : Bay} {s t : State} (h : BayMove b s t) : GrantsKept b s t := by
  cases h with
  | panel => exact .inl (by simp)
  | holds h =>
    have hform := changeHolds_form b h s
    generalize changeHolds b h s = t at hform ⊢
    cases hform with
    | same => exact .inl rfl
    | kept => exact .inl (by simp)
    | held => exact .inr (by rw [driveBay_pae]; exact withdrawAux_pae_congr (by simp))
    | released => exact .inl (by simp)
  | start => exact .inl (startStep_pae b s)
  | givesWay => exact .inr (stepGivesWay_pae b _ _ s)
  | ends => exact .inr (programEnded_pae b _ _ s)
  | reject => exact .inl (postOutcome_pae b _ _ s)
  | accept => exact .inl (enterStep_pae b _ 0)
  | park result =>
    cases hq : inProgress (s.bsq.get b) with
    | true => exact .inr (enterParking_pae result hq)
    | false => exact .inl (by rw [enterParking_else b result s hq])
  | parkEnds => exact .inl (parkEnded_pae b s)
  | clear => exact .inl (by simp)
  | cancel => exact .inl (postOutcome_pae b _ _ _)
  | restart => exact .inr (restartBay_pae b s)
  | count | parkCount | append | free | outputs | heater => exact .inl rfl

end Sys2Proof.Machine
end

section
/-! The power laws: every move keeps the budget range, the totals of the grant table, the compressor law and the fan
levels (R74, R75, R80, R84, R92, R94, R116, R157). -/

namespace Sys2Proof.Machine

/-! ### The budget -/

theorem clampBudget_range (v : Nat) : 800 ≤ clampBudget v ∧ clampBudget v ≤ 3600 ∧ clampBudget v % 10 = 0 := by
  simp only [clampBudget]
  omega

theorem resetBudget_range : 800 ≤ resetBudget ∧ resetBudget ≤ 3600 ∧ resetBudget % 10 = 0 := by decide

theorem BudgetLaw.congr {s t : State} (h : BudgetLaw s) (hb : t.pae.budget = s.pae.budget)
    (he : t.pae.effective = s.pae.effective) (hp : t.supervisor.present = s.supervisor.present) : BudgetLaw t := by
  simpa only [BudgetLaw, hb, he, hp] using h

theorem Kept.budgetLaw {s t : State} (k : Kept s t) (h : BudgetLaw s) : BudgetLaw t :=
  h.congr k.budget k.effective k.present

/-- Forming E anew gives what the law asks of it (R75). -/
theorem formEffective_budgetLaw {s : State} (h : 800 ≤ s.pae.budget ∧ s.pae.budget ≤ 3600 ∧ s.pae.budget % 10 = 0) :
    BudgetLaw (formEffective s) := ⟨h.1, h.2.1, h.2.2, rfl⟩

theorem BudgetLaw.range {s : State} (h : BudgetLaw s) :
    800 ≤ s.pae.budget ∧ s.pae.budget ≤ 3600 ∧ s.pae.budget % 10 = 0 := by
  obtain ⟨hlow, hhigh, hten, -⟩ := h
  exact ⟨hlow, hhigh, hten⟩

theorem boilerUnlocked_kept (s : State) : Kept s (boilerUnlocked s) := .of_plant (boilerUnlocked_plantFrame s)

/-- The round's decision leaves budget, E and presence (R82). -/
theorem applyDecision_budget (d : CompressorDecision) (s : State) :
    (applyDecision d s).pae.budget = s.pae.budget ∧ (applyDecision d s).pae.effective = s.pae.effective ∧
      (applyDecision d s).supervisor.present = s.supervisor.present := by
  cases d <;> exact ⟨rfl, rfl, rfl⟩

theorem enterStandby_budget (s : State) :
    (enterStandby s).pae.budget = s.pae.budget ∧ (enterStandby s).pae.effective = s.pae.effective ∧
      (enterStandby s).supervisor.present = s.supervisor.present := by
  have h := ((forBays_plantFrame _ reholdStandby_plantFrame { s with moc := { s.moc with phase := .standby } }).trans
    (coolBoiler_plantFrame _)).trans (forceCompressorOff_plantFrame _)
  exact ⟨h.budget, h.effective, h.present⟩

theorem enterSleep_budget (s : State) :
    (enterSleep s).pae.budget = s.pae.budget ∧ (enterSleep s).pae.effective = s.pae.effective ∧
      (enterSleep s).supervisor.present = s.supervisor.present := by
  unfold enterSleep
  dsimp only
  split <;> exact ⟨rfl, rfl, rfl⟩

theorem temperatureTaken_kept (b : Bay) (old new : Channel) (s : State) : Kept s (temperatureTaken b old new s) := by
  have h := channelFault_kept b old new s
  refine Kept.trans ?_ (.of_bay (formDemand_frame b _))
  exact Kept.ite (fun _ => h.trans (.of_bay (withdrawAux_frame b _))) fun _ => h

theorem Move.budgetLaw {s t : State} (h : Move s t) (hs : BudgetLaw s) : BudgetLaw t := by
  cases h with
  | bay b hb => exact (Kept.of_bay hb.frame).budgetLaw hs
  | events hx => exact hs.congr rfl rfl hx
  | presence x => exact formEffective_budgetLaw hs.range
  | budget v => exact formEffective_budgetLaw (clampBudget_range v)
  | boiler => exact (Kept.of_plant (toBoiler_plantFrame _ s)).budgetLaw hs
  | lock => exact (Kept.of_plant (lockBoiler_plantFrame _ s)).budgetLaw hs
  | unlock => exact (boilerUnlocked_kept s).budgetLaw hs
  | round =>
    obtain ⟨hb, he, hp⟩ := applyDecision_budget (decideCompressor (available s - classZero s) s) s
    exact hs.congr hb he hp
  | restartPae => exact formEffective_budgetLaw resetBudget_range
  | standby =>
    obtain ⟨hb, he, hp⟩ := enterStandby_budget s
    exact hs.congr hb he hp
  | sleep =>
    obtain ⟨hb, he, hp⟩ := enterSleep_budget s
    exact hs.congr hb he hp
  | wake => exact formEffective_budgetLaw hs.range
  | front b _ _ _ =>
    exact (Kept.of_bay ((reholdFront_frame b _).trans (driveValve_frame b _))).budgetLaw
      (hs.congr rfl rfl rfl)
  | tankFull => exact (Kept.of_plant (forceCompressorOff_plantFrame _)).budgetLaw (hs.congr rfl rfl rfl)
  | temperature b new _ _ _ =>
    exact (temperatureTaken_kept b _ new _).budgetLaw (hs.congr rfl rfl rfl)
  | reset => exact ⟨resetBudget_range.1, resetBudget_range.2.1, resetBudget_range.2.2, rfl⟩
  | tick =>
    refine hs.congr rfl rfl ?_
    change (tickMaster .supervisor s).present = s.supervisor.present
    rw [tickMaster_eq]
    rfl
  | queue | link | mode | roundTimer | untaken | store | boilerParts | senses => exact hs

/-! ### The totals -/

/-- The law of the totals is about the grant table alone. -/
theorem TotalsLaw.congr {s t : State} (h : TotalsLaw s) (hg : t.pae.grants = s.pae.grants) : TotalsLaw t := by
  simpa only [TotalsLaw, hg] using h

theorem withdrawAux_totalsLaw (b : Bay) {s : State} (h : TotalsLaw s) : TotalsLaw (withdrawAux b s) := by
  obtain ⟨h0, h1, h2⟩ := h
  refine ⟨h0, h1, ?_⟩
  have hsum := PerBay.sum_set s.pae.grants.aux b 0
  change s.pae.grants.class2 - s.pae.grants.aux.get b =
    s.pae.grants.boiler + (s.pae.grants.aux.set b 0).sum
  omega

theorem GrantsKept.totalsLaw {b : Bay} {s t : State} (h : GrantsKept b s t) (hs : TotalsLaw s) : TotalsLaw t := by
  rcases h with h | h
  · exact hs.congr (by rw [h])
  · exact (withdrawAux_totalsLaw b hs).congr (by rw [h])

theorem changeHolds_totalsLaw (b : Bay) (h : HoldSet) {s : State} (hs : TotalsLaw s) : TotalsLaw (changeHolds b h s) :=
  (BayMove.holds h).grants.totalsLaw hs

/-- What putting a new hold set keeps, every re-evaluation of a reason keeps. -/
theorem rehold_keeps {p : State → Prop} (h : ∀ b holds s, p s → p (changeHolds b holds s)) (b : Bay) {s : State}
    (hs : p s) : p (reholdFront b s) ∧ p (reholdSteam b s) ∧ p (reholdPower b s) ∧ p (reholdTank b s) ∧
      p (reholdStandby b s) := by
  refine ⟨?_, ?_, ?_, ?_, ?_⟩
  · unfold reholdFront
    split
    · exact h _ _ _ hs
    · exact hs
  · unfold reholdSteam
    split
    · exact h _ _ _ hs
    · exact hs
  · unfold reholdPower
    split
    · exact h _ _ _ hs
    · exact hs
  · unfold reholdTank
    split
    · exact h _ _ _ hs
    · exact hs
  · unfold reholdStandby
    split
    · exact h _ _ _ hs
    · exact hs

theorem withdrawBoiler_totalsLaw {s : State} (h : TotalsLaw s) : TotalsLaw (withdrawBoiler s) := by
  obtain ⟨h0, h1, h2⟩ := h
  refine ⟨h0, h1, ?_⟩
  change s.pae.grants.class2 - s.pae.grants.boiler = 0 + s.pae.grants.aux.sum
  omega

theorem withdrawCompressor_totalsLaw {s : State} (h : TotalsLaw s) : TotalsLaw (withdrawCompressor s) := by
  obtain ⟨h0, h1, h2⟩ := h
  refine ⟨h0, ?_, h2⟩
  change s.pae.grants.class1 - s.pae.grants.compressor = 0
  omega

/-- A move of the boiler keeps what its parts keep: the move itself, the hold sets and the valves. -/
theorem toBoiler_keeps {p : State → Prop} (hmoved : ∀ next s, p s → p (boilerMoved next s))
    (hholds : ∀ b holds s, p s → p (changeHolds b holds s)) (hvalve : ∀ b s, p s → p (driveValve b s))
    (next : BoilerState) {s : State} (hs : p s) : p (toBoiler next s) := by
  by_cases h : s.blc.state = next
  · rw [toBoiler, if_pos h]
    exact hs
  · rw [toBoiler_of_ne h]
    have hsteam : p (forBays reholdSteam (boilerMoved next s)) :=
      forBays_preserves (p := p) (fun b _ hp => (rehold_keeps hholds b hp).2.1) (hmoved next s hs)
    exact forBays_preserves (p := p) hvalve hsteam

/-- The compressor turned OFF keeps what its parts keep. -/
theorem forceCompressorOff_keeps {p : State → Prop} (hholds : ∀ b holds s, p s → p (changeHolds b holds s))
    (hoff : ∀ s, p s → p (withdrawCompressor (compressorOff s))) {s : State} (hs : p s) : p (forceCompressorOff s) := by
  unfold forceCompressorOff
  split
  · exact forBays_preserves (p := p) (f := reholdPower) (fun b s h => (rehold_keeps hholds b h).2.2.1) (hoff s hs)
  · exact hs

theorem coolBoiler_keeps {p : State → Prop} (hboiler : ∀ s, p s → p (toBoiler .cold s)) {s : State} (hs : p s) :
    p (coolBoiler s) := by
  unfold coolBoiler
  split
  · exact hs
  · exact hboiler s hs

/-- STANDBY keeps what its parts keep: the hold sets, the boiler sent to COLD and the compressor turned OFF. -/
theorem enterStandby_keeps {p : State → Prop} (hphase : ∀ s, p s → p { s with moc := { s.moc with phase := .standby } })
    (hholds : ∀ b holds s, p s → p (changeHolds b holds s)) (hboiler : ∀ s, p s → p (toBoiler .cold s))
    (hoff : ∀ s, p s → p (withdrawCompressor (compressorOff s))) {s : State} (hs : p s) : p (enterStandby s) :=
  forceCompressorOff_keeps hholds hoff <| coolBoiler_keeps hboiler <|
    forBays_preserves (p := p) (f := reholdStandby) (fun b _ h => (rehold_keeps hholds b h).2.2.2.2) (hphase s hs)

theorem lockBoiler_keeps {p : State → Prop} {cause : LockCause} {s : State} (hs : p s)
    (hlocked : p (toBoiler .locked { s with blc := { s.blc with cause := cause } })) : p (lockBoiler cause s) := by
  unfold lockBoiler
  split
  · exact hs
  · exact hlocked

/-- A bay channel's fault keeps what the event and the bay's moves keep. -/
theorem channelFault_keeps {p : State → Prop} (hraised : ∀ s, p s → p (raiseSup .sensorFault s))
    (hbay : ∀ {b s t}, BayMove b s t → p s → p t) (b : Bay) (old new : Channel) {s : State} (hs : p s) :
    p (channelFault b old new s) := by
  unfold channelFault
  split
  · unfold baySensorFault
    split
    next h => exact hbay (.parkCount _ _ true h) (hraised s hs)
    next => exact hbay (.park .faulted) (hraised s hs)
  · exact hs

theorem boilerMoved_totalsLaw (next : BoilerState) (s : State) (h : TotalsLaw s) : TotalsLaw (boilerMoved next s) := by
  unfold boilerMoved
  dsimp only
  split
  · exact TotalsLaw.congr (withdrawBoiler_totalsLaw (h.congr rfl)) rfl
  · exact h.congr rfl

theorem toBoiler_totalsLaw (next : BoilerState) {s : State} (h : TotalsLaw s) : TotalsLaw (toBoiler next s) :=
  toBoiler_keeps boilerMoved_totalsLaw (fun b holds _ hs => changeHolds_totalsLaw b holds hs)
    (fun _ _ hs => hs.congr rfl) next h

theorem compressorOff_totalsLaw (s : State) (h : TotalsLaw s) : TotalsLaw (withdrawCompressor (compressorOff s)) :=
  withdrawCompressor_totalsLaw (h.congr rfl)

theorem forceCompressorOff_totalsLaw {s : State} (h : TotalsLaw s) : TotalsLaw (forceCompressorOff s) :=
  forceCompressorOff_keeps (fun b holds _ => changeHolds_totalsLaw b holds) compressorOff_totalsLaw h

theorem enterStandby_totalsLaw {s : State} (h : TotalsLaw s) : TotalsLaw (enterStandby s) :=
  enterStandby_keeps (p := TotalsLaw) (fun _ h => h) (fun b holds _ => changeHolds_totalsLaw b holds)
    (fun _ => toBoiler_totalsLaw .cold) compressorOff_totalsLaw h

theorem temperatureTaken_totalsLaw (b : Bay) (old new : Channel) {s : State} (h : TotalsLaw s) :
    TotalsLaw (temperatureTaken b old new s) := by
  have hfault := channelFault_keeps (p := TotalsLaw) (fun _ h => h.congr rfl) (fun hb h => hb.grants.totalsLaw h)
    b old new h
  unfold temperatureTaken
  dsimp only
  refine TotalsLaw.congr ?_ (by rw [formDemand_pae])
  split
  · exact withdrawAux_totalsLaw b hfault
  · exact hfault

theorem Move.totalsLaw {s t : State} (h : Move s t) (hs : TotalsLaw s) : TotalsLaw t := by
  cases h with
  | bay b hb => exact hb.grants.totalsLaw hs
  | boiler => exact toBoiler_totalsLaw _ hs
  | lock => exact lockBoiler_keeps hs (toBoiler_totalsLaw .locked (hs.congr rfl))
  | unlock => exact toBoiler_totalsLaw .cold (hs.congr rfl)
  | round => exact ⟨rfl, rfl, rfl⟩
  | restartPae =>
    have h := withdrawCompressor_totalsLaw (withdrawBoiler_totalsLaw (s := compressorOff s) (hs.congr rfl))
    exact h.congr rfl
  | standby => exact enterStandby_totalsLaw hs
  | sleep => exact ⟨rfl, rfl, rfl⟩
  | @front b u _ _ _ =>
    have hsense : TotalsLaw { s with snu := u } := hs
    have hheld := (rehold_keeps (fun b holds s hs => changeHolds_totalsLaw b holds hs) b hsense).1
    exact hheld.congr (by rw [driveValve_pae])
  | tankFull => exact forceCompressorOff_totalsLaw (hs.congr rfl)
  | temperature b new _ _ _ => exact temperatureTaken_totalsLaw b _ new (hs.congr rfl)
  | reset => exact ⟨rfl, rfl, rfl⟩
  | queue | link | events | presence | budget | mode | roundTimer | untaken | store | boilerParts | wake | senses
  | tick => exact hs

/-! ### The compressor -/

/-- Drive and grant of the compressor as its run state has them (R80, R125). -/
def CompressorFollows (s : State) : Prop :=
  s.alc.compressorDrive = s.pae.compressorOn ∧
  s.pae.grants.compressor = if s.pae.compressorOn then compressorWatts else 0

theorem compressorLaw_iff (s : State) :
    CompressorLaw s ↔ CompressorFollows s ∧
      (s.pae.compressorOn = true → s.moc.phase = .run ∧ s.snu.condFull.filtered = false) := by
  simp only [CompressorLaw, CompressorFollows, and_assoc]

/-- The compressor is left as it is. -/
structure CompressorSame (s t : State) : Prop where
  drive : t.alc.compressorDrive = s.alc.compressorDrive
  on : t.pae.compressorOn = s.pae.compressorOn
  grant : t.pae.grants.compressor = s.pae.grants.compressor
  minOn : t.pae.minOn = s.pae.minOn
  minOff : t.pae.minOff = s.pae.minOff
  shed : t.pae.shed = s.pae.shed

namespace CompressorSame

variable {s t u : State}

theorem refl (s : State) : CompressorSame s s := by constructor <;> rfl

theorem trans (h : CompressorSame s t) (k : CompressorSame t u) : CompressorSame s u where
  drive := k.drive.trans h.drive
  on := k.on.trans h.on
  grant := k.grant.trans h.grant
  minOn := k.minOn.trans h.minOn
  minOff := k.minOff.trans h.minOff
  shed := k.shed.trans h.shed

theorem of_bay {b : Bay} (h : BayFrame b s t) : CompressorSame s t where
  drive := h.compressorDrive
  on := by rw [h.pae]
  grant := by rw [h.pae]
  minOn := by rw [h.pae]
  minOff := by rw [h.pae]
  shed := by rw [h.pae]

theorem forBays {f : Bay → State → State} (h : ∀ b s, CompressorSame s (f b s)) (s : State) :
    CompressorSame s (forBays f s) :=
  (((h .b0 s).trans (h .b1 _)).trans (h .b2 _)).trans (h .b3 _)

end CompressorSame

theorem CompressorSame.follows {s t : State} (h : CompressorSame s t) (hs : CompressorFollows s) :
    CompressorFollows t := by
  simpa only [CompressorFollows, h.drive, h.on, h.grant] using hs

theorem boilerMoved_compressorSame (next : BoilerState) (s : State) : CompressorSame s (boilerMoved next s) := by
  unfold boilerMoved
  dsimp only
  split <;> constructor <;> rfl

theorem toBoiler_compressorSame (next : BoilerState) (s : State) : CompressorSame s (toBoiler next s) := by
  by_cases h : s.blc.state = next
  · rw [toBoiler, if_pos h]
    exact .refl s
  · rw [toBoiler_of_ne h]
    exact ((boilerMoved_compressorSame next s).trans (.forBays (fun b s => .of_bay (reholdSteam_frame b s)) _)).trans
      (.forBays (fun b s => .of_bay (driveValve_frame b s)) _)

theorem lockBoiler_compressorSame (cause : LockCause) (s : State) : CompressorSame s (lockBoiler cause s) := by
  unfold lockBoiler
  split
  · exact .refl s
  · have h : CompressorSame s { s with blc := { s.blc with cause := cause } } := by constructor <;> rfl
    exact h.trans (toBoiler_compressorSame .locked _)

theorem boilerUnlocked_compressorSame (s : State) : CompressorSame s (boilerUnlocked s) := by
  have h : CompressorSame s { s with blc := { s.blc with cause := .none } } := by constructor <;> rfl
  exact h.trans (toBoiler_compressorSame .cold _)

theorem coolBoiler_compressorSame (s : State) : CompressorSame s (coolBoiler s) := by
  unfold coolBoiler
  split
  · exact .refl s
  · exact toBoiler_compressorSame .cold s

theorem raiseSup_compressorSame (e : SupEvent) (s : State) : CompressorSame s (raiseSup e s) := by constructor <;> rfl

theorem baySensorFault_compressorSame (b : Bay) (s : State) : CompressorSame s (baySensorFault b s) :=
  .of_bay (baySensorFault_frame b s)

theorem temperatureTaken_compressorSame (b : Bay) (old new : Channel) (s : State) :
    CompressorSame s (temperatureTaken b old new s) := by
  have hfault : CompressorSame s (channelFault b old new s) := by
    unfold channelFault
    split
    · exact (raiseSup_compressorSame _ s).trans (.of_bay (baySensorFault_frame b _))
    · exact .refl s
  unfold temperatureTaken
  dsimp only
  refine CompressorSame.trans ?_ (.of_bay (formDemand_frame b _))
  split
  · exact hfault.trans (.of_bay (withdrawAux_frame b _))
  · exact hfault

/-- The compressor is OFF, with neither drive nor grant. -/
structure CompressorStopped (s : State) : Prop where
  on : s.pae.compressorOn = false
  drive : s.alc.compressorDrive = false
  grant : s.pae.grants.compressor = 0

theorem CompressorStopped.congr {s t : State} (h : CompressorSame s t) (hs : CompressorStopped s) :
    CompressorStopped t := ⟨h.on.trans hs.on, h.drive.trans hs.drive, h.grant.trans hs.grant⟩

theorem CompressorStopped.law {s : State} (h : CompressorStopped s) : CompressorLaw s := by
  refine ⟨by rw [h.drive, h.on], by rw [h.grant, h.on]; rfl, fun hon => ?_⟩
  rw [h.on] at hon
  cases hon

theorem forceCompressorOff_on {s : State} (h : s.pae.compressorOn = true) :
    CompressorStopped (forceCompressorOff s) ∧ (forceCompressorOff s).pae.minOff = 0 ∧
      (forceCompressorOff s).pae.shed = s.pae.shed := by
  have hsame := CompressorSame.forBays (fun b s => .of_bay (reholdPower_frame b s)) (withdrawCompressor (compressorOff s))
  rw [forceCompressorOff, if_pos h]
  have hstopped : CompressorStopped (withdrawCompressor (compressorOff s)) := ⟨rfl, rfl, rfl⟩
  exact ⟨hstopped.congr hsame, hsame.minOff, hsame.shed⟩

theorem forceCompressorOff_off {s : State} (h : s.pae.compressorOn = false) : forceCompressorOff s = s := by
  simp [forceCompressorOff, h]

theorem CompressorFollows.stopped {s : State} (h : CompressorFollows s) (hoff : s.pae.compressorOn = false) :
    CompressorStopped s :=
  ⟨hoff, h.1.trans hoff, by rw [h.2, hoff]; rfl⟩

theorem forceCompressorOff_stopped {s : State} (h : CompressorFollows s) : CompressorStopped (forceCompressorOff s) := by
  cases hon : s.pae.compressorOn with
  | true => exact (forceCompressorOff_on hon).1
  | false =>
    rw [forceCompressorOff_off hon]
    exact h.stopped hon

theorem enterStandby_stopped {s : State} (h : CompressorFollows s) : CompressorStopped (enterStandby s) := by
  have hphase : CompressorSame s { s with moc := { s.moc with phase := .standby } } := by constructor <;> rfl
  have hsame := (hphase.trans (.forBays (fun b s => .of_bay (reholdStandby_frame b s)) _)).trans
    (coolBoiler_compressorSame _)
  exact forceCompressorOff_stopped (hsame.follows h)

/-- After a round the compressor has the grant of its run state, and it has been started only in RUN with the condensate
tank not full (R82, R83). -/
theorem allotmentRound_compressorLaw {s : State} (hs : CompressorLaw s) : CompressorLaw (allotmentRound s) := by
  have hround := allotmentRound_of_decision (s := s) rfl
  rw [hround]
  obtain ⟨hdrive, -, hrun⟩ := hs
  cases hon : s.pae.compressorOn with
  | true =>
    rw [decideCompressor_on hon]
    split
    · exact CompressorStopped.law ⟨rfl, rfl, rfl⟩
    split
    · exact ⟨hdrive, (by rw [show (roundWith .stayOn s).pae.compressorOn = true from hon]; rfl), hrun⟩
    · exact CompressorStopped.law ⟨rfl, rfl, rfl⟩
  | false =>
    rw [decideCompressor_off hon]
    split
    next h =>
      obtain ⟨-, -, hcond, hphase, -⟩ := h
      exact ⟨rfl, rfl, fun _ => ⟨hphase, hcond⟩⟩
    next => exact CompressorStopped.law ⟨hon, hdrive.trans hon, rfl⟩

/-- The law across an event that leaves the compressor, the mode and the condensate tank. -/
theorem CompressorLaw.congr {s t : State} (hs : CompressorLaw s) (h : CompressorSame s t)
    (hmoc : t.moc.phase = s.moc.phase)
    (hcond : t.snu.condFull.filtered = true → s.snu.condFull.filtered = true) : CompressorLaw t := by
  rw [compressorLaw_iff] at hs ⊢
  refine ⟨h.follows hs.1, fun hon => ?_⟩
  obtain ⟨hrun, htank⟩ := hs.2 (h.on ▸ hon)
  exact ⟨hmoc.trans hrun, Bool.eq_false_iff.mpr fun ht => absurd (hcond ht) (by simp [htank])⟩

/-- Outside RUN the compressor is stopped. -/
theorem CompressorLaw.stopped {s : State} (hs : CompressorLaw s) (h : s.moc.phase ≠ .run) : CompressorStopped s := by
  rw [compressorLaw_iff] at hs
  refine hs.1.stopped (Bool.eq_false_iff.mpr fun hon => h (hs.2 hon).1)

theorem Kept.compressorLaw {s t : State} (k : Kept s t) (h : CompressorSame s t) (hs : CompressorLaw s) :
    CompressorLaw t :=
  hs.congr h (by rw [k.moc]) (by rw [k.snu]; exact id)

theorem Move.compressorLaw {s t : State} (h : Move s t) (hs : CompressorLaw s) : CompressorLaw t := by
  cases h with
  | bay b hb => exact (Kept.of_bay hb.frame).compressorLaw (.of_bay hb.frame) hs
  | mode hm =>
    obtain ⟨hdrive, hgrant, hrun⟩ := hs
    refine ⟨hdrive, hgrant, fun hon => ⟨?_, (hrun hon).2⟩⟩
    rcases hm with hm | hm | ⟨hset, -⟩
    · exact hm.trans (hrun hon).1
    · exact hm
    · rw [(hrun hon).1] at hset
      cases hset
  | boiler => exact (Kept.of_plant (toBoiler_plantFrame _ s)).compressorLaw (toBoiler_compressorSame _ s) hs
  | lock => exact (Kept.of_plant (lockBoiler_plantFrame _ s)).compressorLaw (lockBoiler_compressorSame _ s) hs
  | unlock => exact (boilerUnlocked_kept s).compressorLaw (boilerUnlocked_compressorSame s) hs
  | round => exact allotmentRound_compressorLaw hs
  | restartPae => exact CompressorStopped.law ⟨rfl, rfl, rfl⟩
  | standby => exact (enterStandby_stopped ((compressorLaw_iff s).mp hs).1).law
  | sleep hp =>
    have hoff := (hs.stopped (by simp [hp])).on
    exact CompressorStopped.law ⟨by simp [enterSleep, hoff], rfl, rfl⟩
  | wake hp =>
    have hstopped := hs.stopped (by simp [hp])
    exact CompressorStopped.law ⟨hstopped.on, hstopped.drive, hstopped.grant⟩
  | senses _ _ hcond => exact hs.congr (by constructor <;> rfl) rfl hcond
  | @front b u _ _ hcond =>
    have hsense : CompressorLaw { s with snu := u } :=
      hs.congr (by constructor <;> rfl) rfl (by rw [hcond]; exact id)
    have hframe := (reholdFront_frame b { s with snu := u }).trans (driveValve_frame b _)
    exact (Kept.of_bay hframe).compressorLaw (.of_bay hframe) hsense
  | @tankFull u _ _ =>
    have hsense : CompressorFollows { s with snu := u } := ((compressorLaw_iff s).mp hs).1
    exact (forceCompressorOff_stopped hsense).law
  | @temperature b new u _ _ hcond =>
    have hsense : CompressorLaw { s with snu := u } :=
      hs.congr (by constructor <;> rfl) rfl (by rw [hcond]; exact id)
    exact (temperatureTaken_kept b _ new _).compressorLaw (temperatureTaken_compressorSame b _ new _) hsense
  | reset => exact CompressorStopped.law ⟨rfl, rfl, rfl⟩
  | tick =>
    have hphase : (tickMoc s.moc).phase = s.moc.phase := by
      unfold tickMoc
      split <;> rfl
    have hcond : (tickSnu s).condFull = s.snu.condFull := by
      unfold tickSnu
      split <;> rfl
    obtain ⟨hdrive, hgrant, hrun⟩ := hs
    refine ⟨hdrive, hgrant, fun hon => ⟨hphase.trans (hrun hon).1, ?_⟩⟩
    change (tickSnu s).condFull.filtered = false
    rw [hcond]
    exact (hrun hon).2
  | queue | link | events | presence | budget | roundTimer | untaken | store | boilerParts => exact hs

end Sys2Proof.Machine
end

section
/-! Fan levels (R78, R116, R157): the ceilings of every program's copies and of every table are at most 8, so every fan
that is driven is. -/

namespace Sys2Proof.Machine

/-! ### Driving a bay -/

/-- What driving a bay leaves of its outputs (R118, R122). -/
theorem driveBay_outputs (b : Bay) (s : State) :
    (driveBay b s).alc.bays.get b =
      { s.alc.bays.get b with
        fan := driveServiced (autoFan (s.bsq.get b)) (s.alc.bays.get b).fan
        damper := driveServiced (autoDamper (s.bsq.get b)) (s.alc.bays.get b).damper
        osc := driveServiced (autoOsc (s.bsq.get b)) (s.alc.bays.get b).osc
        demand := auxDemand b s } := by
  change (((s.alc.bays.set b _).set b _).get b) = _
  rw [PerBay.get_set_same]
  change ({ (s.alc.bays.set b _).get b with demand := auxDemand b s } : BayOutputs) = _
  rw [PerBay.get_set_same]

/-- The outputs of a bay from which the heater grant is withdrawn (R94). -/
theorem withdrawAux_outputs (b : Bay) (s : State) :
    (withdrawAux b s).alc.bays.get b = { s.alc.bays.get b with drive := 0 } := by
  simp [withdrawAux, setOutputs]

theorem formDemand_outputs (b : Bay) (s : State) :
    (formDemand b s).alc.bays.get b = { s.alc.bays.get b with demand := auxDemand b s } := by
  simp [formDemand]

/-! ### One bay -/

/-- The fan of a bay and its service value are at levels 0 to 8. -/
def FanOk (o : BayOutputs) : Prop := o.fan.driven ≤ 8 ∧ o.fan.service ≤ 8

/-- The fan ceilings of a bay's program are at most 8. -/
def CeilingsOk (q : Bsq) : Prop := ∀ x, q.context = some x → ∀ c ∈ x.copies, c.fanCeiling ≤ 8

/-- The part of the fan law that is one bay's. -/
def BayFans (b : Bay) (s : State) : Prop := FanOk (s.alc.bays.get b) ∧ CeilingsOk (s.bsq.get b)

theorem fanLaw_iff (s : State) : FanLaw s ↔ (∀ b, BayFans b s) ∧ PtsFans s.pts := by
  simp only [FanLaw, BayFans, FanOk, CeilingsOk, PtsFans, forall_and, and_assoc]

theorem ceilingsOk_none {q : Bsq} (h : q.context = none) : CeilingsOk q := fun x hx => by rw [h] at hx; cases hx

theorem CeilingsOk.congr {q r : Bsq} (h : CeilingsOk q) (hr : r.context = q.context) : CeilingsOk r := by
  simpa only [CeilingsOk, hr] using h

theorem CeilingsOk.same {q r : Bsq} {x y : Context} (h : CeilingsOk q) (hx : q.context = some x)
    (hr : r.context = some y) (hy : y.copies = x.copies) : CeilingsOk r := by
  intro z hz c hc
  obtain rfl : y = z := by simpa [hr] using hz
  exact h x hx c (hy ▸ hc)

theorem currentCopy_mem {q : Bsq} {c : StepCopy} (h : currentCopy q = some c) :
    ∃ x, q.context = some x ∧ c ∈ x.copies := by
  cases hx : q.context with
  | none => simp [currentCopy, hx] at h
  | some x =>
    refine ⟨x, rfl, ?_⟩
    simp only [currentCopy, hx, Option.bind_some, contextCopy] at h
    exact List.mem_of_getElem? h

theorem autoFan_le {q : Bsq} (h : CeilingsOk q) : autoFan q ≤ 8 := by
  unfold autoFan
  split
  · split
    next c hc =>
      obtain ⟨x, hx, hmem⟩ := currentCopy_mem hc
      exact h x hx c hmem
    next => exact Nat.zero_le 8
  · exact le_refl 8
  · exact Nat.zero_le 8

theorem driveServiced_le {n : Nat} {o : Serviced Nat} (hn : n ≤ 8) (h : o.driven ≤ 8 ∧ o.service ≤ 8) :
    (driveServiced n o).driven ≤ 8 ∧ (driveServiced n o).service ≤ 8 := by
  refine ⟨?_, h.2⟩
  unfold driveServiced
  dsimp only
  split
  · exact h.2
  · exact hn

theorem BayFans.driven {b : Bay} {s : State} (ho : FanOk (s.alc.bays.get b)) (hq : CeilingsOk (s.bsq.get b)) :
    BayFans b (driveBay b s) := by
  refine ⟨?_, by rw [driveBay_bsq]; exact hq⟩
  rw [driveBay_outputs]
  exact driveServiced_le (autoFan_le hq) ho

theorem BayFans.congr {b : Bay} {s t : State} (h : BayFans b s) (hfan : (t.alc.bays.get b).fan = (s.alc.bays.get b).fan)
    (hctx : (t.bsq.get b).context = (s.bsq.get b).context) : BayFans b t :=
  ⟨by simpa only [FanOk, hfan] using h.1, h.2.congr hctx⟩

theorem FanOk.withdrawn {b : Bay} {s : State} (h : FanOk (s.alc.bays.get b)) :
    FanOk ((withdrawAux b s).alc.bays.get b) := by
  rw [withdrawAux_outputs]
  exact h

theorem withdrawAux_bayFans {b : Bay} {s : State} (h : BayFans b s) : BayFans b (withdrawAux b s) :=
  ⟨h.1.withdrawn, by rw [withdrawAux_bsq]; exact h.2⟩

/-! ### Clamping -/

theorem profileOf_fans {table : ProfileTable} {r : StepRecord} {p : Profile} (h : ProfileFans table)
    (hp : profileOf table r = some p) : p.maxFan ≤ 8 := by
  unfold profileOf at hp
  by_cases hlt : r.profile.toNat < 16
  · rw [Vector.getElem?_eq_getElem hlt] at hp
    exact h ⟨_, hlt⟩ p hp
  · rw [Vector.getElem?_eq_none (Nat.not_lt.mp hlt)] at hp
    cases hp

theorem clampStep_fan {k : StepKind} {p : Profile} {r : StepRecord} (hp : p.maxFan ≤ 8) :
    (clampStep k p r).fanCeiling ≤ 8 := by
  cases k with
  | dry => exact (min_le_left _ _).trans (min_le_left _ _)
  | refresh => exact (min_le_left _ _).trans (min_le_left _ _)
  | cool => exact hp
  | steam => exact Nat.le_of_ble_eq_true rfl
  | soak => exact Nat.zero_le 8

theorem clampProgram_fans {table : ProfileTable} (h : ProfileFans table) (rs : List StepRecord) :
    ∀ c ∈ (clampProgram table rs).1, c.fanCeiling ≤ 8 := by
  induction rs with
  | nil => simp [clampProgram]
  | cons r rest ih =>
    unfold clampProgram
    dsimp only
    split
    next k p hk hp =>
      intro c hc
      rcases List.mem_cons.mp hc with rfl | hc
      · exact clampStep_fan (profileOf_fans h hp)
      · exact ih c hc
    next => exact ih

/-! ### The moves of a bay -/

section
variable {b : Bay} {s : State}

theorem changeHolds_bayFans (h : HoldSet) (hs : BayFans b s) : BayFans b (changeHolds b h s) := by
  have hform := changeHolds_form b h s
  generalize changeHolds b h s = t at hform ⊢
  cases hform with
  | same => exact hs
  | kept => exact hs.congr (by simp) (by simp)
  | @held x hx =>
    exact .driven (FanOk.withdrawn (by simpa using hs.1)) (hs.2.same hx (y := { x with satisfied := 0 }) (by simp) rfl)
  | @released x hx =>
    exact .driven (by simpa using hs.1) (hs.2.same hx (y := { x with stallTimer := 0 }) (by simp) rfl)

theorem startStep_bayFans (hs : BayFans b s) : BayFans b (startStep b s) := by
  have hform := startStep_form b s
  generalize startStep b s = t at hform ⊢
  cases hform with
  | none => exact hs
  | @starts x _ hx => exact .driven (by simpa using hs.1) (hs.2.same hx (y := zeroStep x) (by simp) rfl)

theorem enterStep_bayFans (index : Nat) (hs : BayFans b s) : BayFans b (enterStep b index s) := by
  have hform := enterStep_form b index s
  generalize enterStep b index s = t at hform ⊢
  cases hform with
  | none => exact hs
  | @waits x hx =>
    exact .driven (by simpa using hs.1) (hs.2.same hx (y := enteredContext index x) (by simp) rfl)
  | @starts x hx =>
    exact startStep_bayFans ⟨by simpa using hs.1, hs.2.same hx (y := enteredContext index x) (by simp) rfl⟩

theorem stepGivesWay_bayFans (result : Result) (x : Context) (hs : BayFans b s) :
    BayFans b (stepGivesWay b result x s) := by
  refine enterStep_bayFans _ ((withdrawAux_bayFans hs).congr ?_ ?_)
  · rw [removeStep_alc, stepNotified_alc]
  · rw [removeStep_bsq, stepNotified_bsq]

theorem programEnded_bayFans (result : Result) (x : Context) (hs : BayFans b s) :
    BayFans b (programEnded b result x s) := by
  refine .driven ?_ (ceilingsOk_none (by simp))
  rw [raisePanel_alc, setBsq_alc, removeStep_alc, postOutcome_alc]
  exact hs.1.withdrawn

theorem enterParking_bayFans (result : ParkResult) (hs : BayFans b s) : BayFans b (enterParking b result s) := by
  unfold enterParking
  split
  · refine .driven (FanOk.withdrawn (by simpa using hs.1)) ?_
    cases hx : (s.bsq.get b).context with
    | none => exact ceilingsOk_none (by simp [hx])
    | some x => exact hs.2.same hx (y := { x with pendingResult := some result }) (by simp [hx]) rfl
  · exact hs

theorem parkEnded_bayFans (hs : BayFans b s) : BayFans b (parkEnded b s) :=
  .driven (by simpa [closeProgram_alc] using hs.1) (ceilingsOk_none (by simp))

theorem endAwait_le {n : Nat} {o : Serviced Nat} (hn : n ≤ 8) (h : o.driven ≤ 8 ∧ o.service ≤ 8) :
    (endAwait n o).driven ≤ 8 ∧ (endAwait n o).service ≤ 8 := by
  unfold endAwait
  split
  · exact driveServiced_le hn h
  · exact h

theorem takeHeater_bayFans (hs : BayFans b s) : BayFans b (takeHeater b s) := by
  refine ⟨?_, hs.2⟩
  simp only [takeHeater, setOutputs_bays, PerBay.get_set_same]
  exact endAwait_le (autoFan_le hs.2) hs.1

theorem restartBay_bayFans (hs : BayFans b s) : BayFans b (restartBay b s) := by
  have hauto : FanOk (autoOutputs (s.alc.bays.get b)) := autoServiced_fan _ hs.1
  unfold restartBay
  dsimp only
  split
  · exact .driven (FanOk.withdrawn (by simpa using hauto)) (ceilingsOk_none (by simp))
  · refine ⟨?_, ceilingsOk_none (by simp)⟩
    rw [formDemand_outputs, withdrawAux_outputs]
    simpa [FanOk] using hauto

theorem BayMove.bayFans {t : State} (h : BayMove b s t) (hs : BayFans b s) (hp : PtsFans s.pts) : BayFans b t := by
  cases h with
  | holds h => exact changeHolds_bayFans h hs
  | count hx hy => exact ⟨hs.1, hs.2.same hx (by simp [setContext]) hy.copies⟩
  | start => exact startStep_bayFans hs
  | givesWay => exact stepGivesWay_bayFans _ _ hs
  | ends => exact programEnded_bayFans _ _ hs
  | reject =>
    refine hs.congr ?_ ?_
    · rw [rejectProgram, removeHead_alc, postOutcome_alc]
    · rw [rejectProgram, removeHead_bsq, postOutcome_bsq]
  | accept =>
    refine enterStep_bayFans 0 ⟨hs.1, fun y hy => ?_⟩
    simp only [programAdmitted, setBsq_bsq, setRing_bsq, setOutcomes_bsq, PerBay.get_set_same, Option.some.injEq] at hy
    subst hy
    exact clampProgram_fans hp.1 _
  | park result => exact enterParking_bayFans result hs
  | parkCount => exact hs.congr rfl (by simp)
  | parkEnds => exact parkEnded_bayFans hs
  | clear => exact .driven (by simpa using hs.1) (hs.2.congr (by simp))
  | cancel => exact hs.congr (by rw [postOutcome_alc]; rfl) (by rw [postOutcome_bsq]; rfl)
  | outputs _ _ hfan => exact ⟨by simpa [FanOk] using hfan hs.1, hs.2⟩
  | heater => exact takeHeater_bayFans hs
  | restart => exact restartBay_bayFans hs
  | panel | append | free => exact hs

end

/-! ### The plant -/

theorem FanLaw.of_bay {b : Bay} {s t : State} (h : FanLaw s) (hframe : BayFrame b s t) (hb : BayFans b t) :
    FanLaw t := by
  rw [fanLaw_iff] at h ⊢
  refine ⟨fun c => ?_, hframe.pts ▸ h.2⟩
  by_cases hc : c = b
  · exact hc ▸ hb
  · exact (h.1 c).congr (by rw [hframe.outputs c hc]) (by rw [hframe.bsq c hc])

theorem BayMove.fanLaw {b : Bay} {s t : State} (h : BayMove b s t) (hs : FanLaw s) : FanLaw t :=
  hs.of_bay h.frame (h.bayFans (((fanLaw_iff s).mp hs).1 b) ((fanLaw_iff s).mp hs).2)

theorem changeHolds_fanLaw (b : Bay) (h : HoldSet) {s : State} (hs : FanLaw s) : FanLaw (changeHolds b h s) :=
  (BayMove.holds h).fanLaw hs

/-- The law reads the bays' outputs and programs and the profile store. -/
theorem FanLaw.congr {s t : State} (h : FanLaw s) (halc : t.alc.bays = s.alc.bays) (hbsq : t.bsq = s.bsq)
    (hpts : t.pts = s.pts) : FanLaw t := by
  simpa only [FanLaw, halc, hbsq, hpts] using h

theorem boilerMoved_alc (next : BoilerState) (s : State) : (boilerMoved next s).alc = s.alc := by
  unfold boilerMoved
  dsimp only
  split <;> rfl

theorem boilerMoved_bsq (next : BoilerState) (s : State) : (boilerMoved next s).bsq = s.bsq := by
  unfold boilerMoved
  dsimp only
  split <;> rfl

theorem boilerMoved_pts (next : BoilerState) (s : State) : (boilerMoved next s).pts = s.pts := by
  unfold boilerMoved
  dsimp only
  split <;> rfl

theorem toBoiler_fanLaw (next : BoilerState) {s : State} (h : FanLaw s) : FanLaw (toBoiler next s) :=
  toBoiler_keeps
    (fun next s hs => hs.congr (by rw [boilerMoved_alc]) (boilerMoved_bsq next s) (boilerMoved_pts next s))
    (fun b holds _ hs => changeHolds_fanLaw b holds hs) (fun _ _ hs => hs.congr rfl rfl rfl) next h

theorem forceCompressorOff_fanLaw {s : State} (h : FanLaw s) : FanLaw (forceCompressorOff s) :=
  forceCompressorOff_keeps (p := FanLaw) (fun b holds _ => changeHolds_fanLaw b holds) (fun _ h => h) h

theorem enterStandby_fanLaw {s : State} (h : FanLaw s) : FanLaw (enterStandby s) :=
  enterStandby_keeps (p := FanLaw) (fun _ h => h) (fun b holds _ => changeHolds_fanLaw b holds)
    (fun _ => toBoiler_fanLaw .cold) (fun _ h => h) h

theorem temperatureTaken_fanLaw (b : Bay) (old new : Channel) {s : State} (h : FanLaw s) :
    FanLaw (temperatureTaken b old new s) := by
  have hfault := channelFault_keeps (p := FanLaw) (fun _ h => h) (fun hb h => hb.fanLaw h) b old new h
  have hwithdrawn {u : State} (hu : FanLaw u) : FanLaw (withdrawAux b u) :=
    hu.of_bay (withdrawAux_frame b u) (withdrawAux_bayFans (((fanLaw_iff u).mp hu).1 b))
  have hformed {u : State} (hu : FanLaw u) : FanLaw (formDemand b u) :=
    hu.of_bay (formDemand_frame b u) ((((fanLaw_iff u).mp hu).1 b).congr (by rw [formDemand_outputs]) rfl)
  refine hformed ?_
  split
  · exact hwithdrawn hfault
  · exact hfault

theorem enterSleep_fanLaw {s : State} (h : FanLaw s) : FanLaw (enterSleep s) := by
  rw [fanLaw_iff] at h ⊢
  have hbsq : (enterSleep s).bsq = s.bsq := by
    unfold enterSleep
    dsimp only
    split <;> rfl
  have hpts : (enterSleep s).pts = s.pts := by
    unfold enterSleep
    dsimp only
    split <;> rfl
  have halc : (enterSleep s).alc.bays = s.alc.bays.map sleepOutputs := by
    unfold enterSleep
    dsimp only
    split <;> rfl
  refine ⟨fun b => ⟨?_, by rw [hbsq]; exact (h.1 b).2⟩, by rw [hpts]; exact h.2⟩
  rw [halc, PerBay.get_map]
  exact ⟨Nat.zero_le 8, (h.1 b).1.2⟩

theorem factory_fans : ProfileFans ProfileTable.factory := by
  unfold ProfileFans
  decide +revert

theorem loadTable_fans {p : Pts} (h : PtsFans p) : PtsFans (loadTable p) := by
  obtain ⟨-, -, hstore⟩ := h
  refine ⟨?_, fun t ht => (nomatch ht), hstore⟩
  unfold loadTable
  dsimp only
  split
  · split
    next t ht => exact hstore t ht
    next => exact factory_fans
  · exact factory_fans

theorem resetPart_fanLaw (cause : ResetCause) (straps : Straps) {s : State} (h : FanLaw s) :
    FanLaw (resetPart cause straps s) := by
  rw [fanLaw_iff] at h ⊢
  refine ⟨fun b => ⟨?_, ceilingsOk_none ?_⟩, loadTable_fans h.2⟩
  · cases b <;> exact ⟨Nat.zero_le 8, Nat.zero_le 8⟩
  · simp [resetPart, resetBay]

theorem tickBay_copies {q : Bsq} {y : Context} (h : (tickBay q).context = some y) :
    ∃ x, q.context = some x ∧ SameStep x y := by
  cases hx : q.context with
  | none =>
    unfold tickBay at h
    split at h <;> simp [hx] at h
  | some x =>
    refine ⟨x, rfl, ?_⟩
    unfold tickBay at h
    split at h <;> simp only [hx, Option.map_some, Option.some.injEq] at h <;> subst h <;> exact ⟨rfl, rfl, rfl, rfl⟩

theorem tick_fanLaw {s : State} (h : FanLaw s) : FanLaw (tick s) := by
  rw [fanLaw_iff] at h ⊢
  refine ⟨fun b => ⟨(h.1 b).1, fun y hy c hc => ?_⟩, ?_⟩
  · obtain ⟨x, hx, hsame⟩ := tickBay_copies (q := s.bsq.get b) (by simpa [tick] using hy)
    exact (h.1 b).2 x hx c (hsame.copies ▸ hc)
  · change PtsFans (tickPts s.pts)
    unfold tickPts
    split <;> exact h.2

theorem Move.fanLaw {s t : State} (h : Move s t) (hs : FanLaw s) : FanLaw t := by
  cases h with
  | bay b hb => exact hb.fanLaw hs
  | store hp => exact (fanLaw_iff _).mpr ⟨((fanLaw_iff s).mp hs).1, hp ((fanLaw_iff s).mp hs).2⟩
  | boiler => exact toBoiler_fanLaw _ hs
  | lock => exact lockBoiler_keeps hs (toBoiler_fanLaw .locked (hs.congr rfl rfl rfl))
  | unlock => exact toBoiler_fanLaw .cold (hs.congr rfl rfl rfl)
  | round =>
    have hround := allotmentRound_of_decision (s := s) rfl
    rw [hround]
    generalize decideCompressor _ s = d
    cases d <;> exact hs
  | standby => exact enterStandby_fanLaw hs
  | sleep => exact enterSleep_fanLaw hs
  | @front b u _ _ _ =>
    have hsense : FanLaw { s with snu := u } := hs
    have hheld := (rehold_keeps (fun b holds s hs => changeHolds_fanLaw b holds hs) b hsense).1
    exact hheld.congr rfl rfl rfl
  | @tankFull u _ _ =>
    have hsense : FanLaw { s with snu := u } := hs
    exact forceCompressorOff_fanLaw hsense
  | @temperature b new u _ _ _ =>
    have hsense : FanLaw { s with snu := u } := hs
    exact temperatureTaken_fanLaw b _ new hsense
  | reset => exact resetPart_fanLaw _ _ hs
  | tick => exact tick_fanLaw hs
  | queue | link | events | presence | budget | mode | roundTimer | untaken | boilerParts | restartPae | wake
  | senses => exact hs

/-- Settles O59: each of the four laws is kept by every move that a step is made of. -/
theorem powerLawsAreKept : Obligations.PowerLawsAreKept :=
  ⟨keptByStep_of_moves Move.budgetLaw, keptByStep_of_moves Move.totalsLaw, keptByStep_of_moves Move.compressorLaw,
    keptByStep_of_moves Move.fanLaw⟩

end Sys2Proof.Machine
end

section
/-! Laws of the bays' programs and rings: a law of each bay's sequencer, step ring and outcome ring is kept by every step
as soon as the moves of a bay, the passing of time and a reset keep it. -/

namespace Sys2Proof.Machine

/-- A law of one bay's sequencer, step ring and outcome ring, for every bay. -/
def EachBay (law : Bsq → StepRing → OutcomeRing → Prop) (s : State) : Prop :=
  ∀ b, law (s.bsq.get b) (s.srs.get b) (s.oau.get b)

/-- What a law of a bay's sequencer and rings has to survive. -/
structure KeptByBay (law : Bsq → StepRing → OutcomeRing → Prop) : Prop where
  move : ∀ {b : Bay} {s t : State}, BayMove b s t → law (s.bsq.get b) (s.srs.get b) (s.oau.get b) →
    law (t.bsq.get b) (t.srs.get b) (t.oau.get b)
  tick : ∀ {q : Bsq} {r : StepRing} {o : OutcomeRing}, law q r o → law (tickBay q) r o
  reset : ∀ fitted : Bool, law (resetBay fitted) ⟨[], 0, 0, 0, 0⟩ ⟨[], 0, 0, false, false⟩

section
variable {law : Bsq → StepRing → OutcomeRing → Prop} {s t : State}

theorem EachBay.congr (h : EachBay law s) (hbsq : t.bsq = s.bsq) (hsrs : t.srs = s.srs) (hoau : t.oau = s.oau) :
    EachBay law t := by
  simpa only [EachBay, hbsq, hsrs, hoau] using h

theorem EachBay.move (k : KeptByBay law) (hs : EachBay law s) {b : Bay} (h : BayMove b s t) : EachBay law t := by
  intro c
  by_cases hc : c = b
  · subst hc
    exact k.move h (hs c)
  · have hframe := h.frame
    rw [hframe.bsq c hc, hframe.srs c hc, hframe.oau c hc]
    exact hs c

theorem EachBay.holds (k : KeptByBay law) (b : Bay) (h : HoldSet) (s : State) (hs : EachBay law s) :
    EachBay law (changeHolds b h s) := hs.move k (.holds h)

theorem boilerMoved_srs (next : BoilerState) (s : State) : (boilerMoved next s).srs = s.srs := by
  unfold boilerMoved
  dsimp only
  split <;> rfl

theorem boilerMoved_oau (next : BoilerState) (s : State) : (boilerMoved next s).oau = s.oau := by
  unfold boilerMoved
  dsimp only
  split <;> rfl

theorem EachBay.boiler (k : KeptByBay law) (next : BoilerState) (hs : EachBay law s) : EachBay law (toBoiler next s) :=
  toBoiler_keeps (p := EachBay law)
    (fun next s h => h.congr (boilerMoved_bsq next s) (boilerMoved_srs next s) (boilerMoved_oau next s)) (.holds k)
    (fun _ _ h => h.congr rfl rfl rfl) next hs

theorem EachBay.rehold (k : KeptByBay law) (b : Bay) (hs : EachBay law s) :
    EachBay law (reholdFront b s) ∧ EachBay law (reholdSteam b s) ∧ EachBay law (reholdPower b s) ∧
      EachBay law (reholdTank b s) ∧ EachBay law (reholdStandby b s) :=
  rehold_keeps (.holds k) b hs

theorem EachBay.compressorOff (k : KeptByBay law) (hs : EachBay law s) : EachBay law (forceCompressorOff s) :=
  forceCompressorOff_keeps (p := EachBay law) (.holds k) (fun _ h => h.congr rfl rfl rfl) hs

theorem EachBay.standby (k : KeptByBay law) (hs : EachBay law s) : EachBay law (enterStandby s) :=
  enterStandby_keeps (p := EachBay law) (fun _ h => h.congr rfl rfl rfl) (.holds k) (fun _ h => h.boiler k .cold)
    (fun _ h => h.congr rfl rfl rfl) hs

theorem EachBay.temperature (k : KeptByBay law) (b : Bay) (old new : Channel) (hs : EachBay law s) :
    EachBay law (temperatureTaken b old new s) := by
  have hfault := channelFault_keeps (p := EachBay law) (fun _ h => h.congr rfl rfl rfl) (fun hb h => h.move k hb)
    b old new hs
  unfold temperatureTaken
  dsimp only
  split
  · exact hfault.congr rfl rfl rfl
  · exact hfault.congr rfl rfl rfl

theorem EachBay.reset (k : KeptByBay law) (cause : ResetCause) (straps : Straps) (s : State) :
    EachBay law (resetPart cause straps s) := by
  intro b
  change law ((straps.fitted.map resetBay).get b) (State.reset.srs.get b) (State.reset.oau.get b)
  rw [PerBay.get_map]
  have hempty : State.reset.srs.get b = ⟨[], 0, 0, 0, 0⟩ ∧ State.reset.oau.get b = ⟨[], 0, 0, false, false⟩ := by
    cases b <;> exact ⟨rfl, rfl⟩
  rw [hempty.1, hempty.2]
  exact k.reset _

theorem enterSleep_rings (s : State) :
    (enterSleep s).bsq = s.bsq ∧ (enterSleep s).srs = s.srs ∧ (enterSleep s).oau = s.oau := by
  unfold enterSleep
  dsimp only
  split <;> exact ⟨rfl, rfl, rfl⟩

theorem Move.eachBay (k : KeptByBay law) (h : Move s t) (hs : EachBay law s) : EachBay law t := by
  cases h with
  | bay b hb => exact hs.move k hb
  | boiler => exact hs.boiler k _
  | lock => exact lockBoiler_keeps hs (EachBay.boiler k .locked (hs.congr rfl rfl rfl))
  | unlock => exact EachBay.boiler k .cold (hs.congr rfl rfl rfl)
  | round =>
    have hround := allotmentRound_of_decision (s := s) rfl
    rw [hround]
    generalize decideCompressor _ s = d
    cases d <;> exact hs.congr rfl rfl rfl
  | standby => exact hs.standby k
  | sleep =>
    obtain ⟨hbsq, hsrs, hoau⟩ := enterSleep_rings s
    exact hs.congr hbsq hsrs hoau
  | @front b u _ _ _ =>
    have hsense : EachBay law { s with snu := u } := hs.congr rfl rfl rfl
    exact (hsense.rehold k b).1.congr rfl rfl rfl
  | @tankFull u _ _ =>
    have hsense : EachBay law { s with snu := u } := hs.congr rfl rfl rfl
    exact hsense.compressorOff k
  | @temperature b new u _ _ _ =>
    have hsense : EachBay law { s with snu := u } := hs.congr rfl rfl rfl
    exact hsense.temperature k b _ new
  | reset cause straps => exact .reset k cause straps s
  | tick =>
    intro b
    change law ((s.bsq.map tickBay).get b) (s.srs.get b) (s.oau.get b)
    rw [PerBay.get_map]
    exact k.tick (hs b)
  | queue | link | events | presence | budget | mode | roundTimer | untaken | store | boilerParts | restartPae | wake
  | senses => exact hs.congr rfl rfl rfl

/-- A law of each bay's sequencer and rings is kept by every step. -/
theorem keptByStep_eachBay (k : KeptByBay law) : KeptByStep (EachBay law) := keptByStep_of_moves fun h => h.eachBay k

end

/-! ### What the moves of a bay leave of its rings -/

section
variable (b : Bay) (s : State)

theorem promiseStep_oau (x : Context) :
    (promiseStep b x s).oau.get b = { s.oau.get b with
      promise := if headNotify b s && !isFinalStep x then true else (s.oau.get b).promise } := by
  unfold promiseStep
  split <;> simp

@[simp] theorem emptyHolds_srs : (emptyHolds b s).srs = s.srs := by
  unfold emptyHolds
  split <;> simp

@[simp] theorem emptyHolds_oau : (emptyHolds b s).oau = s.oau := by
  unfold emptyHolds
  split <;> simp

theorem startStep_srs : (startStep b s).srs = s.srs := by
  have h := startStep_form b s
  generalize startStep b s = t at h ⊢
  cases h with
  | none => rfl
  | starts => simp

theorem enterStep_srs (index : Nat) : (enterStep b index s).srs = s.srs := by
  have h := enterStep_form b index s
  generalize enterStep b index s = t at h ⊢
  cases h with
  | none => rfl
  | waits => simp
  | starts => simp [startStep_srs]

theorem removeStep_srs : (removeStep b s).srs.get b = { s.srs.get b with
    records := (s.srs.get b).records.drop 1
    c := (s.srs.get b).c + BitVec.ofNat 8 1
    admitted := (s.srs.get b).admitted - 1 } := by
  simp [removeStep, removeHead]

theorem closeProgram_rings {x : Context} {r : ParkResult} (hx : (s.bsq.get b).context = some x)
    (hr : x.pendingResult = some r) :
    (closeProgram b s).srs.get b = { s.srs.get b with
      records := (s.srs.get b).records.drop (s.srs.get b).admitted
      c := (s.srs.get b).c + BitVec.ofNat 8 (s.srs.get b).admitted
      admitted := 0 } ∧
    (closeProgram b s).oau = (postOutcome b .final (stepOutcome b x (parkResult r) true s) s).oau := by
  simp [closeProgram, hx, hr, postOutcome_srs, removeHead]

theorem closeProgram_none (hx : (s.bsq.get b).context = none) : closeProgram b s = s := by simp [closeProgram, hx]

theorem enterParking_rings (result : ParkResult) :
    (enterParking b result s).srs = s.srs ∧
    (enterParking b result s).oau.get b = { s.oau.get b with
      promise := if inProgress (s.bsq.get b) then false else (s.oau.get b).promise } := by
  unfold enterParking
  split <;> simp

theorem restartBay_rings :
    (restartBay b s).srs.get b = ⟨[], 0, 0, 0, 0⟩ ∧ (restartBay b s).oau.get b = ⟨[], 0, 0, false, false⟩ ∧
    (restartBay b s).bsq.get b = { s.bsq.get b with
      state := if inProgress (s.bsq.get b) then .parking else (s.bsq.get b).state
      context := none, holds := HoldSet.empty
      parkTimer := if inProgress (s.bsq.get b) then 0 else (s.bsq.get b).parkTimer
      parkMinTaken := if inProgress (s.bsq.get b) then false else (s.bsq.get b).parkMinTaken } := by
  unfold restartBay
  dsimp only
  split <;> simp

end

/-! ### The counts of the outcome rings (R143) -/

theorem OutcomeCounts.congr {o p : OutcomeRing} (h : OutcomeCounts o) (hr : p.records = o.records) (hq : p.q = o.q)
    (hf : p.f = o.f) : OutcomeCounts p := by
  simpa only [OutcomeCounts, hr, hq, hf] using h

/-- Posting keeps the counts, whatever record is posted (R145). -/
theorem postOutcome_counts (b : Bay) (role : PostRole) (rec : Outcome) {s : State} (h : OutcomeCounts (s.oau.get b)) :
    OutcomeCounts ((postOutcome b role rec s).oau.get b) := by
  rw [postOutcome_ring]
  simp only [OutcomeCounts] at h ⊢
  rw [h, List.length_append, List.length_singleton, BitVec.ofNat_add, BitVec.add_assoc]
  rfl

/-- Freeing the k oldest keeps the counts (R148). -/
theorem freed_counts {o : OutcomeRing} {freed : Byte} (h : OutcomeCounts o)
    (hk : (freed - o.f).toNat ≤ o.records.length) :
    OutcomeCounts { o with records := o.records.drop (freed - o.f).toNat, f := freed } := by
  simp only [OutcomeCounts] at h ⊢
  have hlen : o.records.length = (freed - o.f).toNat + (o.records.length - (freed - o.f).toNat) := by omega
  rw [List.length_drop, h, hlen, BitVec.ofNat_add, BitVec.ofNat_toNat, BitVec.setWidth_eq, ← BitVec.add_assoc,
    BitVec.add_comm o.f, BitVec.sub_add_cancel, Nat.add_sub_cancel_left]

theorem startStep_counts (b : Bay) {s : State} (h : OutcomeCounts (s.oau.get b)) :
    OutcomeCounts ((startStep b s).oau.get b) := by
  have hform := startStep_form b s
  generalize startStep b s = t at hform ⊢
  cases hform with
  | none => exact h
  | starts =>
    rw [driveBay_oau, stepSettled_oau, promiseStep_oau]
    exact h.congr rfl rfl rfl

theorem enterStep_counts (b : Bay) (index : Nat) {s : State} (h : OutcomeCounts (s.oau.get b)) :
    OutcomeCounts ((enterStep b index s).oau.get b) := by
  have hform := enterStep_form b index s
  generalize enterStep b index s = t at hform ⊢
  cases hform with
  | none => exact h
  | waits => simpa using h
  | starts => exact startStep_counts b (by simpa using h)

theorem stepNotified_counts (b : Bay) (result : Result) (x : Context) {s : State} (h : OutcomeCounts (s.oau.get b)) :
    OutcomeCounts ((stepNotified b result x s).oau.get b) := by
  unfold stepNotified
  split
  · exact postOutcome_counts b _ _ h
  · exact h

theorem closeProgram_counts (b : Bay) {s : State} (h : OutcomeCounts (s.oau.get b)) :
    OutcomeCounts ((closeProgram b s).oau.get b) := by
  unfold closeProgram
  split
  · split
    · exact postOutcome_counts b _ _ h
    · exact h
  · exact h

theorem outcomeCounts_kept : KeptByBay fun _ _ o => OutcomeCounts o where
  move {b s t} h hs := by
    cases h with
    | holds h => rw [(changeHolds_rings b h s).2]; exact hs
    | start => exact startStep_counts b hs
    | givesWay result => exact enterStep_counts b _ (stepNotified_counts b result _ hs)
    | ends =>
      simp only [programEnded, becomeIdle, driveBay_oau, raisePanel_oau, setBsq_oau, removeStep_oau]
      exact postOutcome_counts b _ _ hs
    | reject => exact postOutcome_counts b _ _ hs
    | accept =>
      refine enterStep_counts b 0 ?_
      simp only [programAdmitted, setBsq_oau, setRing_oau, setOutcomes_oau, PerBay.get_set_same]
      exact hs.congr rfl rfl rfl
    | park result => rw [(enterParking_rings b s result).2]; exact hs.congr rfl rfl rfl
    | parkEnds =>
      simp only [parkEnded, driveBay_oau, raisePanel_oau, setBsq_oau]
      exact closeProgram_counts b hs
    | cancel => exact postOutcome_counts b _ _ hs
    | free hk => simpa using freed_counts hs hk
    | restart => rw [(restartBay_rings b s).2.1]; rfl
    | clear => simpa using hs
    | panel | count | parkCount | append | outputs | heater => exact hs
  tick h := h
  reset _ := rfl

end Sys2Proof.Machine
end

section
/-! The copies of a program (R14, R19, R42): one for each step, with the index at one of them. -/

namespace Sys2Proof.Machine

/-- A step that passes its checks has a kind and a VALID profile (R15). -/
theorem stepFailure_none {table : ProfileTable} {r : StepRecord} (h : stepFailure table r = none) :
    ∃ k p, kindOfCode r.kind = some k ∧ profileOf table r = some p := by
  unfold stepFailure at h
  cases hk : kindOfCode r.kind with
  | none => simp [hk] at h
  | some k =>
    cases hp : profileOf table r with
    | none =>
      simp only [hk, hp] at h
      split at h <;> cases h
    | some p => exact ⟨k, p, rfl, rfl⟩

/-- A program that passes its checks has one copy for each step (R19). -/
theorem clampProgram_length {table : ProfileTable} {rs : List StepRecord} {i : Nat}
    (h : firstFailure table i rs = none) : (clampProgram table rs).1.length = rs.length := by
  induction rs generalizing i with
  | nil => rfl
  | cons r rest ih =>
    unfold firstFailure at h
    cases hf : stepFailure table r with
    | some reason => simp [hf] at h
    | none =>
      obtain ⟨k, p, hk, hp⟩ := stepFailure_none hf
      simp only [hf] at h
      simp [clampProgram, hk, hp, ih h]

/-- The program at the head of a ring has a step, and no more steps than the ring has records (R11). -/
theorem headProgram_length {rs program : List StepRecord} (h : headProgram rs = some program) :
    1 ≤ program.length ∧ program.length ≤ rs.length := by
  induction rs generalizing program with
  | nil => cases h
  | cons r rest ih =>
    unfold headProgram at h
    split at h
    · cases h
      simp
    · obtain ⟨front, hfront, rfl⟩ := Option.map_eq_some_iff.mp h
      have hlen := ih hfront
      simp only [List.length_cons]
      omega

/-! ### One bay -/

theorem SameStep.refl (x : Context) : SameStep x x := ⟨rfl, rfl, rfl, rfl⟩

theorem CopiesLaw.congr {q p : Bsq} (h : CopiesLaw q) (hc : p.context = q.context) : CopiesLaw p := by
  simpa only [CopiesLaw, hc] using h

theorem CopiesLaw.same {q p : Bsq} {x y : Context} (h : CopiesLaw q) (hx : q.context = some x)
    (hp : p.context = some y) (hy : y.stepCount = x.stepCount ∧ y.copies = x.copies ∧ y.index = x.index) :
    CopiesLaw p := by
  intro z hz
  obtain rfl : y = z := by simpa [hp] using hz
  obtain ⟨hcount, hcopies, hindex⟩ := hy
  rw [hcount, hcopies, hindex]
  exact h x hx

theorem copiesLaw_none {q : Bsq} (h : q.context = none) : CopiesLaw q := fun x hx => by rw [h] at hx; cases hx

/-- A step is entered at an index of its program. -/
theorem CopiesLaw.entered {p : Bsq} {x : Context} {index : Nat} (hlen : x.copies.length = x.stepCount)
    (hindex : index < x.stepCount) (hp : p.context = some (enteredContext index x)) : CopiesLaw p := by
  intro z hz
  obtain rfl : enteredContext index x = z := by simpa [hp] using hz
  exact ⟨hlen, hindex⟩

section
variable {b : Bay} {s : State}

theorem changeHolds_copies (h : HoldSet) (hs : CopiesLaw (s.bsq.get b)) :
    CopiesLaw ((changeHolds b h s).bsq.get b) := by
  have hform := changeHolds_form b h s
  generalize changeHolds b h s = t at hform ⊢
  cases hform with
  | same => exact hs
  | kept => exact hs.congr (by simp)
  | @held x hx => exact hs.same hx (y := { x with satisfied := 0 }) (by simp) ⟨rfl, rfl, rfl⟩
  | @released x hx => exact hs.same hx (y := { x with stallTimer := 0 }) (by simp) ⟨rfl, rfl, rfl⟩

theorem startStep_copies (hs : CopiesLaw (s.bsq.get b)) : CopiesLaw ((startStep b s).bsq.get b) := by
  have hform := startStep_form b s
  generalize startStep b s = t at hform ⊢
  cases hform with
  | none => exact hs
  | @starts x _ hx => exact hs.same hx (y := zeroStep x) (by simp) ⟨rfl, rfl, rfl⟩

theorem enterStep_copies {x : Context} {index : Nat} (hx : (s.bsq.get b).context = some x)
    (hlen : x.copies.length = x.stepCount) (hindex : index < x.stepCount) :
    CopiesLaw ((enterStep b index s).bsq.get b) := by
  have hform := enterStep_form b index s
  generalize enterStep b index s = t at hform ⊢
  cases hform with
  | none hnone => rw [hx] at hnone; cases hnone
  | waits hy =>
    obtain rfl : x = _ := Option.some.inj (hx.symm.trans hy)
    exact .entered hlen hindex (by simp)
  | starts hy =>
    obtain rfl : x = _ := Option.some.inj (hx.symm.trans hy)
    exact startStep_copies (.entered hlen hindex (by simp))

theorem isFinalStep_eq_false {x : Context} : isFinalStep x = false ↔ x.index + 1 < x.stepCount := by
  simp [isFinalStep]

theorem BayMove.copies {t : State} (h : BayMove b s t) (hs : CopiesLaw (s.bsq.get b)) : CopiesLaw (t.bsq.get b) := by
  cases h with
  | holds h => exact changeHolds_copies h hs
  | count hx hy => exact hs.same hx (by simp [setContext]) ⟨hy.stepCount, hy.copies, hy.index⟩
  | start => exact startStep_copies hs
  | givesWay result hc hx hf =>
    refine enterStep_copies ?_ (hs _ hx).1 (isFinalStep_eq_false.mp hf)
    rw [removeStep_bsq, stepNotified_bsq, withdrawAux_bsq]
    exact hx
  | ends => exact copiesLaw_none (by simp [programEnded, becomeIdle_bsq])
  | reject => exact hs.congr (by rw [rejectProgram, removeHead_bsq, postOutcome_bsq])
  | @accept program ha hp hf =>
    refine enterStep_copies (by simp [programAdmitted]; rfl) (clampProgram_length hf) ?_
    exact (headProgram_length hp).1
  | park result =>
    cases hq : inProgress (s.bsq.get b) with
    | false => rw [enterParking_else b result s hq]; exact hs
    | true =>
      rw [enterParking_bsq b result s hq]
      cases hx : (s.bsq.get b).context with
      | none => exact copiesLaw_none rfl
      | some x => exact hs.same hx rfl ⟨rfl, rfl, rfl⟩
  | parkEnds => exact copiesLaw_none (by simp [parkEnded])
  | restart => exact copiesLaw_none (by rw [(restartBay_rings b s).2.2])
  | cancel => exact hs.congr (by rw [postOutcome_bsq]; rfl)
  | parkCount => exact hs.congr (by simp)
  | clear => exact hs.congr (by simp)
  | panel => exact hs.congr (by simp)
  | append | free | outputs | heater => exact hs

end

theorem copies_kept : KeptByBay fun q _ _ => CopiesLaw q where
  move h hs := h.copies hs
  tick {q _ _} hs y hy := by
    obtain ⟨x, hx, hsame⟩ := tickBay_copies hy
    rw [hsame.copies, hsame.stepCount, hsame.index]
    exact hs x hx
  reset _ := copiesLaw_none rfl

end Sys2Proof.Machine
end

section
/-! The states of a bay with their programs and hold sets (R39, R42, R46). -/

namespace Sys2Proof.Machine

/-- A bay in none of the states of a program has none (R39). -/
theorem bayLaw_none {q : Bsq} (hx : q.context = none) (hp : inProgress q = false) (hh : q.holds = HoldSet.empty) :
    BayLaw q := by
  have hheld : q.state ≠ .held := fun h => by simp [inProgress, h] at hp
  refine ⟨⟨fun h => absurd h hheld, fun h => absurd hh h⟩, fun h => ?_, fun _ x h => ?_, fun _ => hx⟩
  · rw [hp] at h; cases h
  · rw [hx] at h; cases h

/-- A bay with a program in progress (R39, R42, R46). -/
theorem bayLaw_progress {q : Bsq} {x : Context} (hx : q.context = some x) (hp : inProgress q = true)
    (hh : q.state = .held ↔ q.holds ≠ HoldSet.empty) : BayLaw q := by
  refine ⟨hh, fun _ => by rw [hx]; rfl, fun h => ?_, fun h => ?_⟩
  · simp [inProgress, h] at hp
  · rcases h with h | h | h <;> simp [inProgress, h] at hp

theorem BayLaw.congr {q p : Bsq} (h : BayLaw q) (hstate : p.state = q.state) (hholds : p.holds = q.holds)
    (hx : p.context = q.context) : BayLaw p := by
  simpa only [BayLaw, inProgress, hstate, hholds, hx] using h

/-- The same program at the same step, in the same state and with the same hold set. -/
theorem BayLaw.counted {q p : Bsq} {x y : Context} (h : BayLaw q) (hx : q.context = some x) (hy : p.context = some y)
    (hsame : SameStep x y) (hstate : p.state = q.state) (hholds : p.holds = q.holds) : BayLaw p := by
  obtain ⟨hheld, -, hpark, hnone⟩ := h
  refine ⟨by rw [hstate, hholds]; exact hheld, fun _ => by rw [hy]; rfl, fun hp z hz => ?_, fun hp => ?_⟩
  · obtain rfl : y = z := by simpa [hy] using hz
    rw [hsame.pendingResult]
    exact hpark (hstate ▸ hp) x hx
  · have hgone := hnone (hstate ▸ hp)
    rw [hx] at hgone
    cases hgone

theorem BayLaw.holds_empty {q : Bsq} (h : BayLaw q) (hq : q.state ≠ .held) : q.holds = HoldSet.empty := by
  by_contra hh
  exact hq (h.1.mpr hh)

/-! ### Hold sets, and the start of a step -/

theorem changeHolds_bayLaw {b : Bay} {s : State} (h : HoldSet) (hs : BayLaw (s.bsq.get b)) :
    BayLaw ((changeHolds b h s).bsq.get b) := by
  have hform := changeHolds_form b h s
  generalize changeHolds b h s = t at hform ⊢
  cases hform with
  | same => exact hs
  | kept hk =>
    obtain ⟨-, hprogress, hpark, hnone⟩ := hs
    simp only [raisePanel_bsq, setBsq_bsq, PerBay.get_set_same]
    refine ⟨?_, hprogress, hpark, hnone⟩
    rcases hk with ⟨hstate, hh⟩ | ⟨hstate, hh⟩ <;> simp [hstate, hh]
  | @held x _ _ hh => exact bayLaw_progress (x := { x with satisfied := 0 }) (by simp) (by simp [inProgress]) (by simp [hh])
  | @released x _ _ hh =>
    exact bayLaw_progress (x := { x with stallTimer := 0 }) (by simp) (by simp [inProgress]) (by simp [hh])

/-- A step that starts is RUNNING or HELD by its hold set (R45). -/
theorem stepSettled_bayLaw (b : Bay) (x : Context) (h : HoldSet) (s : State) :
    BayLaw ((driveBay b (stepSettled b x h s)).bsq.get b) := by
  refine bayLaw_progress (x := x) (by simp) ?_ ?_
  · by_cases hh : h = HoldSet.empty <;> simp [inProgress, holdsEmpty, hh]
  · by_cases hh : h = HoldSet.empty <;> simp [holdsEmpty, hh]

section
variable {b : Bay} {s : State}

theorem startStep_bayLaw (hs : BayLaw (s.bsq.get b)) : BayLaw ((startStep b s).bsq.get b) := by
  have hform := startStep_form b s
  generalize startStep b s = t at hform ⊢
  cases hform with
  | none => exact hs
  | starts => exact stepSettled_bayLaw b _ _ _

/-- A step is entered from a RUNNING bay, or with its copy. -/
theorem enterStep_bayLaw {x : Context} {index : Nat} (hx : (s.bsq.get b).context = some x)
    (hstate : (s.bsq.get b).state = .running ∧ (s.bsq.get b).holds = HoldSet.empty ∨
      contextCopy (enteredContext index x) ≠ none) : BayLaw ((enterStep b index s).bsq.get b) := by
  have hform := enterStep_form b index s
  generalize enterStep b index s = t at hform ⊢
  cases hform with
  | none hnone => rw [hx] at hnone; cases hnone
  | waits hy =>
    obtain rfl : x = _ := Option.some.inj (hx.symm.trans hy)
    exact bayLaw_progress (x := enteredContext index x) (by simp) (by simp [inProgress]) (by simp)
  | starts hy hw =>
    obtain rfl : x = _ := Option.some.inj (hx.symm.trans hy)
    have hform := startStep_form b (stepEntered b index x s)
    generalize startStep b (stepEntered b index x s) = t at hform ⊢
    cases hform with
    | none hc =>
      obtain ⟨hrun, hh⟩ := hstate.resolve_right fun h => h (by simpa [currentCopy] using hc)
      exact bayLaw_progress (x := enteredContext index x) (by simp) (by simp [inProgress, hrun]) (by simp [hrun, hh])
    | starts => exact stepSettled_bayLaw b _ _ _

theorem runningCopy_running {q : Bsq} {c : StepCopy} (h : runningCopy q = some c) : q.state = .running := by
  unfold runningCopy at h
  split at h
  next hs => exact hs
  next => cases h

theorem contextCopy_ne_none {x : Context} (hlen : x.copies.length = x.stepCount) (hindex : x.index < x.stepCount) :
    contextCopy x ≠ none := by
  rw [contextCopy, List.getElem?_eq_getElem (hlen ▸ hindex)]
  simp

/-- The context of a program as it is admitted (R35). -/
theorem programAdmitted_context (b : Bay) (program : List StepRecord) (s : State) :
    ∃ x, ((programAdmitted b program s).bsq.get b).context = some x ∧
      x.copies = (clampProgram s.pts.table program).1 ∧ x.stepCount = program.length :=
  ⟨_, by simp [programAdmitted]; rfl, rfl, rfl⟩

/-- The first step of a program that passes its checks has its copy (R14, R19). -/
theorem firstCopy_ne_none {program : List StepRecord} {x : Context}
    (hf : firstFailure s.pts.table 0 program = none) (hone : 1 ≤ program.length)
    (hcopies : x.copies = (clampProgram s.pts.table program).1) (hcount : x.stepCount = program.length) :
    contextCopy (enteredContext 0 x) ≠ none :=
  contextCopy_ne_none ((congrArg List.length hcopies).trans ((clampProgram_length hf).trans hcount.symm))
    (hone.trans_eq hcount.symm)

/-! ### Every move -/

theorem BayMove.bayLaw {t : State} (h : BayMove b s t) (hs : BayLaw (s.bsq.get b)) : BayLaw (t.bsq.get b) := by
  cases h with
  | holds h => exact changeHolds_bayLaw h hs
  | count hx hy => exact hs.counted hx (by simp [setContext]) hy (by simp [setContext]) (by simp [setContext])
  | start => exact startStep_bayLaw hs
  | givesWay result hc hx hf =>
    have hrun := runningCopy_running hc
    have hbsq (x : Context) : (removeStep b (stepNotified b result x (withdrawAux b s))).bsq = s.bsq := by
      rw [removeStep_bsq, stepNotified_bsq, withdrawAux_bsq]
    refine enterStep_bayLaw (by rw [hbsq]; exact hx) (.inl ?_)
    rw [hbsq]
    exact ⟨hrun, hs.holds_empty (by simp [hrun])⟩
  | ends =>
    simp only [programEnded, becomeIdle_bsq, PerBay.get_set_same]
    exact bayLaw_none rfl rfl rfl
  | @accept program ha hp hf =>
    obtain ⟨x, hx, hcopies, hcount⟩ := programAdmitted_context b program s
    exact enterStep_bayLaw hx (.inr (firstCopy_ne_none hf (headProgram_length hp).1 hcopies hcount))
  | park result =>
    cases hp : inProgress (s.bsq.get b) with
    | false => rwa [enterParking_else b result s hp]
    | true =>
      obtain ⟨x, hx⟩ := Option.isSome_iff_exists.mp (hs.2.1 hp)
      rw [enterParking_bsq b result s hp, hx]
      refine ⟨by simp, fun h => ?_, fun _ y hy => ?_, fun h => ?_⟩
      · simp [inProgress] at h
      · obtain rfl := Option.some.inj hy
        simp
      · simp at h
  | parkEnds hpark =>
    simp only [parkEnded, driveBay_bsq, raisePanel_bsq, setBsq_bsq, PerBay.get_set_same, closeProgram_bsq]
    refine bayLaw_none rfl ?_ (hs.holds_empty (by simp [hpark]))
    cases (s.bsq.get b).faultAfterPark <;> rfl
  | clear hfaulted =>
    have hnone := hs.2.2.2 (.inr (.inl hfaulted))
    simpa using bayLaw_none (q := { s.bsq.get b with state := .idle }) hnone rfl (hs.holds_empty (by simp [hfaulted]))
  | restart =>
    rw [(restartBay_rings b s).2.2]
    refine bayLaw_none rfl ?_ rfl
    cases hp : inProgress (s.bsq.get b) with
    | true => rfl
    | false => exact hp
  | @reject program index reason tag _ _ =>
    have hbsq : (rejectProgram b program.length index reason tag s).bsq = s.bsq := by
      rw [rejectProgram, removeHead_bsq, postOutcome_bsq]
    rwa [hbsq]
  | cancel => exact hs.congr (by rw [postOutcome_bsq]; rfl) (by rw [postOutcome_bsq]; rfl) (by rw [postOutcome_bsq]; rfl)
  | parkCount | panel => exact hs.congr (by simp) (by simp) (by simp)
  | append | free | outputs | heater => exact hs

end

theorem tickBay_state (q : Bsq) : (tickBay q).state = q.state ∧ (tickBay q).holds = q.holds := by
  unfold tickBay
  split <;> exact ⟨rfl, rfl⟩

theorem tickBay_none {q : Bsq} (h : q.context = none) : (tickBay q).context = none := by
  unfold tickBay
  split <;> simp [h]

theorem tickBay_some {q : Bsq} {x : Context} (h : q.context = some x) :
    ∃ y, (tickBay q).context = some y ∧ SameStep x y := by
  unfold tickBay
  split <;> simp only [h, Option.map_some] <;> exact ⟨_, rfl, rfl, rfl, rfl, rfl⟩

theorem bayLaw_kept : KeptByBay fun q _ _ => BayLaw q where
  move h hs := h.bayLaw hs
  tick {q _ _} hs := by
    obtain ⟨hstate, hholds⟩ := tickBay_state q
    cases hx : q.context with
    | none => exact hs.congr hstate hholds (by rw [tickBay_none hx, hx])
    | some x =>
      obtain ⟨y, hy, hsame⟩ := tickBay_some hx
      exact hs.counted hx hy hsame hstate hholds
  reset fitted := bayLaw_none rfl (by cases fitted <;> rfl) rfl

end Sys2Proof.Machine
end

section
/-! Programs, hold sets, step rings and outcome rings stay in step (R21, R22, R28, R39, R42, R46, R144). -/

namespace Sys2Proof.Machine

/-! ### The laws of one bay -/

/-- The steps of a program that are still in the ring (R28, R42). -/
def stepsLeft : Option Context → Nat
  | some x => x.stepCount - x.index
  | none => 0

/-- The head of a ring carries NOTIFY. -/
def ringNotify (r : StepRing) : Bool := match r.records.head? with | some h => isNotify h | none => false

/-- A started step that is not final and carries NOTIFY (R59, R144). -/
def Notifies (q : Bsq) (r : StepRing) : Prop :=
  ∃ c x, startedCopy q = some c ∧ q.context = some x ∧ ringNotify r = true ∧ isFinalStep x = false

/-- The step ring of a bay, with the program it holds (R21, R22, R28). -/
structure RingInStep (program : Option Context) (r : StepRing) : Prop where
  room : r.records.length ≤ ringPlaces
  counts : r.p = r.c + BitVec.ofNat 8 r.records.length
  inside : r.admitted ≤ r.records.length
  admitted : r.admitted = stepsLeft program
  index : ∀ x, program = some x → x.index < x.stepCount

/-- The entries that records, reservation and promise take (R144). -/
def entriesTaken (o : OutcomeRing) : Nat := o.records.length + o.reservation.toNat + o.promise.toNat

/-- Sequencer, step ring and outcome ring of a bay in step. -/
structure InStep (q : Bsq) (r : StepRing) (o : OutcomeRing) : Prop where
  bay : BayLaw q
  ring : RingInStep q.context r
  entries : entriesTaken o ≤ outcomePlaces
  reserved : q.context.isSome = true → o.reservation = true
  promised : Notifies q r → o.promise = true

theorem ringLaw_iff (b : Bay) (s : State) : RingLaw b s ↔ RingInStep (s.bsq.get b).context (s.srs.get b) := by
  unfold RingLaw
  cases hx : (s.bsq.get b).context with
  | none => exact ⟨fun ⟨h1, h2, h3, h4⟩ => ⟨h1, h2, h3, h4, fun _ h => nomatch h⟩, fun ⟨h1, h2, h3, h4, _⟩ => ⟨h1, h2, h3, h4⟩⟩
  | some x =>
    refine ⟨fun ⟨h1, h2, h3, h4, h5⟩ => ⟨h1, h2, h3, h5, fun y hy => Option.some.inj hy ▸ h4⟩, ?_⟩
    exact fun ⟨h1, h2, h3, h4, h5⟩ => ⟨h1, h2, h3, h5 x rfl, h4⟩

theorem notifyStarted_iff (b : Bay) (s : State) :
    notifyStarted b s = true ↔ Notifies (s.bsq.get b) (s.srs.get b) := by
  have hhead : headNotify b s = ringNotify (s.srs.get b) := rfl
  cases hc : startedCopy (s.bsq.get b) <;> cases hx : (s.bsq.get b).context <;>
    simp [notifyStarted, Notifies, hc, hx, hhead]

theorem inStep_iff (s : State) : BaysLaw s ∧ RingsLaw s ∧ EntriesLaw s ↔ EachBay InStep s := by
  constructor
  · intro ⟨hbays, hrings, hentries⟩ b
    obtain ⟨hsum, hres, hprom⟩ := hentries b
    exact ⟨hbays b, (ringLaw_iff b s).mp (hrings b), hsum, hres, fun h => hprom ((notifyStarted_iff b s).mpr h)⟩
  · intro h
    refine ⟨fun b => (h b).bay, fun b => (ringLaw_iff b s).mpr (h b).ring, fun b => ?_⟩
    exact ⟨(h b).entries, (h b).reserved, fun hn => (h b).promised ((notifyStarted_iff b s).mp hn)⟩

/-! ### Their parts -/

theorem startedCopy_state {q : Bsq} {c : StepCopy} (h : startedCopy q = some c) : q.state = .running ∨ q.state = .held := by
  unfold startedCopy at h
  split at h
  · assumption
  · cases h

theorem not_notifies_of_state {q : Bsq} {r : StepRing} (hrun : q.state ≠ .running) (hheld : q.state ≠ .held) :
    ¬ Notifies q r := fun ⟨_, _, hc, _⟩ => (startedCopy_state hc).elim hrun hheld

theorem not_notifies_of_none {q : Bsq} {r : StepRing} (h : q.context = none) : ¬ Notifies q r :=
  fun ⟨_, _, _, hx, _⟩ => by rw [h] at hx; cases hx

theorem RingInStep.same {x y : Context} {r : StepRing} (h : RingInStep (some x) r)
    (hy : y.stepCount = x.stepCount ∧ y.index = x.index) : RingInStep (some y) r where
  room := h.room
  counts := h.counts
  inside := h.inside
  admitted := by
    rw [h.admitted, stepsLeft, stepsLeft, hy.1, hy.2]
  index z hz := by
    obtain rfl := Option.some.inj hz
    rw [hy.1, hy.2]
    exact h.index x rfl

theorem startedCopy_of_state {q : Bsq} (h : q.state = .running ∨ q.state = .held) : startedCopy q = currentCopy q := by
  simp [startedCopy, h]

theorem Notifies.state {q : Bsq} {r : StepRing} (h : Notifies q r) : q.state = .running ∨ q.state = .held := by
  obtain ⟨c, x, hc, -⟩ := h
  exact startedCopy_state hc

/-- The same program at the same step carries the same NOTIFY. -/
theorem Notifies.same {q p : Bsq} {r : StepRing} {x y : Context} (h : Notifies p r)
    (hq : q.state = .running ∨ q.state = .held) (hx : q.context = some x) (hy : p.context = some y)
    (hsame : SameStep x y) : Notifies q r := by
  have hp := h.state
  obtain ⟨c, z, hc, hz, hn, hf⟩ := h
  obtain rfl : y = z := by simpa [hy] using hz
  rw [startedCopy_of_state hp, currentCopy, hy, Option.bind_some, contextCopy, hsame.copies, hsame.index] at hc
  refine ⟨c, x, ?_, hx, hn, ?_⟩
  · rw [startedCopy_of_state hq, currentCopy, hx]
    exact hc
  · rwa [isFinalStep, hsame.stepCount, hsame.index] at hf

/-- The same program at the same step in a started bay. -/
theorem InStep.started {q p : Bsq} {r : StepRing} {o : OutcomeRing} {x y : Context} (h : InStep q r o)
    (hq : q.state = .running ∨ q.state = .held) (hx : q.context = some x)
    (hy : p.context = some y) (hsame : SameStep x y) (hbay : BayLaw p) : InStep p r o where
  bay := hbay
  ring := by
    have hring := h.ring
    rw [hx] at hring
    rw [hy]
    exact hring.same ⟨hsame.stepCount, hsame.index⟩
  entries := h.entries
  reserved _ := h.reserved (by rw [hx]; rfl)
  promised hn := h.promised (hn.same hq hx hy hsame)

/-- The same program at the same step, in the same state and with the same hold set. -/
theorem InStep.counted {q p : Bsq} {r : StepRing} {o : OutcomeRing} {x y : Context} (h : InStep q r o)
    (hx : q.context = some x) (hy : p.context = some y) (hsame : SameStep x y) (hstate : p.state = q.state)
    (hholds : p.holds = q.holds) : InStep p r o where
  bay := h.bay.counted hx hy hsame hstate hholds
  ring := by
    have hring := h.ring
    rw [hx] at hring
    rw [hy]
    exact hring.same ⟨hsame.stepCount, hsame.index⟩
  entries := h.entries
  reserved _ := h.reserved (by rw [hx]; rfl)
  promised hn := h.promised (hn.same (by rw [← hstate]; exact hn.state) hx hy hsame)

/-- A bay with no program. -/
theorem InStep.of_none {q : Bsq} {r : StepRing} {o : OutcomeRing} (hbay : BayLaw q) (hx : q.context = none)
    (hring : RingInStep none r) (hentries : entriesTaken o ≤ outcomePlaces) : InStep q r o :=
  ⟨hbay, hx ▸ hring, hentries, fun h => by simp [hx] at h, fun hn => absurd hn (not_notifies_of_none hx)⟩

/-! ### Hold sets -/

section
variable {b : Bay} {s : State}

/-- The laws of a bay as they stand in a state. -/
abbrev BayInStep (b : Bay) (s : State) : Prop := InStep (s.bsq.get b) (s.srs.get b) (s.oau.get b)

theorem changeHolds_inStep (h : HoldSet) (hs : BayInStep b s) : BayInStep b (changeHolds b h s) := by
  obtain ⟨hsrs, hoau⟩ := changeHolds_rings b h s
  have hbay := changeHolds_bayLaw h hs.bay
  rw [BayInStep, hsrs, hoau]
  have hform := changeHolds_form b h s
  generalize changeHolds b h s = t at hform hbay ⊢
  cases hform with
  | same => exact hs
  | kept hk =>
    have hq : (s.bsq.get b).state = .running ∨ (s.bsq.get b).state = .held := hk.imp And.left And.left
    have hp : inProgress (s.bsq.get b) = true := by rcases hq with hq | hq <;> simp [inProgress, hq]
    obtain ⟨x, hx⟩ := Option.isSome_iff_exists.mp (hs.bay.2.1 hp)
    exact hs.started hq hx (by simpa using hx) (.refl x) hbay
  | @held x hx hstate => exact hs.started (y := { x with satisfied := 0 }) (.inl hstate) hx (by simp) ⟨rfl, rfl, rfl, rfl⟩ hbay
  | @released x hx hstate => exact hs.started (y := { x with stallTimer := 0 }) (.inr hstate) hx (by simp) ⟨rfl, rfl, rfl, rfl⟩ hbay

/-! ### Entering and starting a step -/

/-- A bay about to enter or start a step of a program: its rings are in step and its entry is reserved. -/
structure Entering (b : Bay) (x : Context) (s : State) : Prop where
  context : (s.bsq.get b).context = some x
  ring : RingInStep (some x) (s.srs.get b)
  entries : entriesTaken (s.oau.get b) ≤ outcomePlaces
  reserved : (s.oau.get b).reservation = true

/-- A step starts with its promise, for which there is an entry (R45, R144). -/
theorem Entering.starts {x : Context} {h : HoldSet} (he : Entering b x s)
    (hfree : headNotify b s = true → isFinalStep x = false → (s.oau.get b).promise = true ∨ 1 ≤ freeEntries (s.oau.get b)) :
    BayInStep b (driveBay b (stepSettled b (zeroStep x) h (promiseStep b x s))) := by
  have hsrs : (driveBay b (stepSettled b (zeroStep x) h (promiseStep b x s))).srs = s.srs := by simp
  have hbsq : (driveBay b (stepSettled b (zeroStep x) h (promiseStep b x s))).bsq.get b = { s.bsq.get b with
      state := if holdsEmpty h then .running else .held, holds := h, context := some (zeroStep x) } := by simp
  have hbay : BayLaw _ := stepSettled_bayLaw b (zeroStep x) h (promiseStep b x s)
  rw [hbsq] at hbay
  rw [BayInStep, hsrs, driveBay_oau, stepSettled_oau, promiseStep_oau, hbsq]
  refine ⟨hbay, he.ring.same ⟨rfl, rfl⟩, ?_, fun _ => he.reserved, ?_⟩
  · have hsum := he.entries
    simp only [entriesTaken] at hsum ⊢
    split
    next hn =>
      rw [Bool.and_eq_true, Bool.not_eq_true'] at hn
      rcases hfree hn.1 hn.2 with hp | hp
      · rw [hp] at hsum
        exact hsum
      · have hone := Bool.toNat_le (s.oau.get b).promise
        simp only [freeEntries] at hp
        simp only [Bool.toNat_true]
        omega
    next => exact hsum
  · rintro ⟨c, y, -, hy, hn, hf⟩
    obtain rfl : zeroStep x = y := Option.some.inj hy
    have hx : isFinalStep x = false := hf
    have hhead : headNotify b s = true := hn
    simp [hhead, hx]

/-- A step is entered: it waits, or starts with its promise (R43, R45). The bay is RUNNING, or the step has its copy. -/
theorem Entering.enters {x : Context} {index : Nat} (hx : (s.bsq.get b).context = some x)
    (he : Entering b (enteredContext index x) (stepEntered b index x s))
    (hstate : (s.bsq.get b).state = .running ∧ (s.bsq.get b).holds = HoldSet.empty ∨
      contextCopy (enteredContext index x) ≠ none) : BayInStep b (enterStep b index s) := by
  have hform := enterStep_form b index s
  generalize enterStep b index s = t at hform ⊢
  cases hform with
  | none hnone => rw [hx] at hnone; cases hnone
  | waits hy hw =>
    obtain rfl : x = _ := Option.some.inj (hx.symm.trans hy)
    have hbsq : ((driveBay b (setBsq b { (stepEntered b index x s).bsq.get b with
        state := .waiting, holds := HoldSet.empty } (stepEntered b index x s))).bsq.get b) =
        { s.bsq.get b with state := .waiting, holds := HoldSet.empty, context := some (enteredContext index x) } := by simp
    rw [BayInStep, hbsq, driveBay_srs, driveBay_oau, setBsq_srs, setBsq_oau]
    refine ⟨bayLaw_progress (x := enteredContext index x) rfl rfl (by simp), he.ring, he.entries, fun _ => he.reserved, ?_⟩
    exact fun hn => absurd hn (not_notifies_of_state (by simp) (by simp))
  | starts hy hw =>
    obtain rfl : x = _ := Option.some.inj (hx.symm.trans hy)
    have hform := startStep_form b (stepEntered b index x s)
    generalize startStep b (stepEntered b index x s) = t at hform ⊢
    cases hform with
    | none hc =>
      have hbsq : (stepEntered b index x s).bsq.get b =
          { s.bsq.get b with context := some (enteredContext index x) } := by simp
      have hnone : contextCopy (enteredContext index x) = none := by simpa [currentCopy, hbsq] using hc
      obtain ⟨hrun, hh⟩ := hstate.resolve_right fun h => h hnone
      refine ⟨?_, by rw [he.context]; exact he.ring, he.entries, fun _ => he.reserved, ?_⟩
      · rw [hbsq]
        exact bayLaw_progress rfl (by simp [inProgress, hrun]) (by simp [hrun, hh])
      · rintro ⟨c, -, hstarted, -⟩
        rw [startedCopy_of_state (startedCopy_state hstarted), hc] at hstarted
        cases hstarted
    | starts hz =>
      obtain rfl := Option.some.inj (he.context.symm.trans hz)
      refine he.starts fun hn hf => .inr ?_
      have hnofree : freeEntries ((stepEntered b index x s).oau.get b) ≠ 0 := by
        simpa [mustWait, hn, hf] using hw
      omega

end

end Sys2Proof.Machine
end

section
/-! Every move of a bay leaves its program, its hold set and its rings in step; so does every step (R21, R22, R28, R39,
R46, R144). -/

namespace Sys2Proof.Machine

/-! ### Records that go, and entries that are taken -/

/-- Records removed from the head of a ring (R21, R28). -/
theorem RingInStep.removed {program next : Option Context} {r : StepRing} {n m : Nat} (h : RingInStep program r)
    (hn : n ≤ r.records.length) (hm : m ≤ r.records.length - n) (hleft : m = stepsLeft next)
    (hindex : ∀ x, next = some x → x.index < x.stepCount) :
    RingInStep next
      { r with records := r.records.drop n, c := r.c + BitVec.ofNat 8 n, admitted := m } where
  room := (List.drop_sublist n r.records).length_le.trans h.room
  counts := by
    have hlen : r.records.length = n + (r.records.length - n) := by omega
    change r.p = r.c + BitVec.ofNat 8 n + BitVec.ofNat 8 (r.records.drop n).length
    rw [h.counts, hlen, List.length_drop, BitVec.ofNat_add, ← BitVec.add_assoc]
  inside := by simpa using hm
  admitted := hleft
  index := hindex

/-- The final record takes the entry that was reserved for it (R144, R145). -/
theorem entriesTaken_final {o : OutcomeRing} (rec : Outcome) (h : o.reservation = true) :
    entriesTaken { o with records := o.records ++ [rec], q := o.q + 1, reservation := false } = entriesTaken o := by
  simp only [entriesTaken, List.length_append, List.length_singleton, h, Bool.toNat_true, Bool.toNat_false]

/-- A record that is not final takes the entry promised for it (R144, R145). -/
theorem entriesTaken_notify {o : OutcomeRing} (rec : Outcome) (h : o.promise = true) :
    entriesTaken { o with records := o.records ++ [rec], q := o.q + 1, promise := false } = entriesTaken o := by
  simp only [entriesTaken, List.length_append, List.length_singleton, h, Bool.toNat_true, Bool.toNat_false]
  omega

/-- A free unreserved entry is one that is not taken (R144). -/
theorem entriesTaken_lt {o : OutcomeRing} (h : 1 ≤ freeEntries o) : entriesTaken o + 1 ≤ outcomePlaces := by
  simp only [freeEntries, entriesTaken] at h ⊢
  omega

theorem admissible_idle {b : Bay} {s : State} (h : admissible b s = true) :
    (s.bsq.get b).state = .idle ∧ 1 ≤ freeEntries (s.oau.get b) := by
  simp only [admissible, Bool.and_eq_true, decide_eq_true_eq] at h
  obtain ⟨⟨⟨⟨⟨hidle, -⟩, -⟩, -⟩, -⟩, hfree⟩ := h
  exact ⟨hidle, hfree⟩

theorem runningCopy_started {q : Bsq} {c : StepCopy} (h : runningCopy q = some c) :
    q.state = .running ∧ startedCopy q = some c := by
  unfold runningCopy at h
  split at h
  next hs => exact ⟨hs, by rw [startedCopy_of_state (.inl hs)]; exact h⟩
  next => cases h

theorem InStep.congr {q p : Bsq} {r : StepRing} {o : OutcomeRing} (h : InStep q r o) (hstate : p.state = q.state)
    (hholds : p.holds = q.holds) (hx : p.context = q.context) : InStep p r o := by
  refine ⟨h.bay.congr hstate hholds hx, hx ▸ h.ring, h.entries, hx ▸ h.reserved, fun hn => h.promised ?_⟩
  simpa only [Notifies, startedCopy, currentCopy, hstate, hx] using hn

section
variable {b : Bay} {s : State}

/-! ### The end of a step -/

/-- A NOTIFY outcome takes its promise, so that the entries taken stay as they are (R59, R144). -/
theorem stepNotified_entries {x : Context} (result : Result) (hs : BayInStep b s)
    (hpromise : headNotify b s = true → (s.oau.get b).promise = true) :
    entriesTaken ((stepNotified b result x s).oau.get b) ≤ outcomePlaces ∧
      ((stepNotified b result x s).oau.get b).reservation = (s.oau.get b).reservation := by
  unfold stepNotified
  split
  next hn =>
    rw [postOutcome_ring]
    exact ⟨(entriesTaken_notify _ (hpromise hn)).trans_le hs.entries, rfl⟩
  next => exact ⟨hs.entries, rfl⟩

theorem stepNotified_srs (result : Result) (x : Context) : (stepNotified b result x s).srs = s.srs := by
  unfold stepNotified
  split
  · exact postOutcome_srs b _ _ s
  · rfl

theorem stepGivesWay_inStep {c : StepCopy} {x : Context} (result : Result) (hs : BayInStep b s)
    (hc : runningCopy (s.bsq.get b) = some c) (hx : (s.bsq.get b).context = some x) (hf : isFinalStep x = false) :
    BayInStep b (stepGivesWay b result x s) := by
  obtain ⟨hrun, hstarted⟩ := runningCopy_started hc
  have hnext := isFinalStep_eq_false.mp hf
  have hwithdrawn : BayInStep b (withdrawAux b s) := hs
  obtain ⟨hentries, hreserved⟩ := stepNotified_entries (x := x) result hwithdrawn
    fun hn => hs.promised ⟨c, x, hstarted, hx, hn, hf⟩
  have hring : RingInStep (some x) (s.srs.get b) := hx ▸ hs.ring
  have hadmitted : (s.srs.get b).admitted = x.stepCount - x.index := hring.admitted
  have hinside := hring.inside
  have hbsq : (removeStep b (stepNotified b result x (withdrawAux b s))).bsq = s.bsq := by
    rw [removeStep_bsq, stepNotified_bsq, withdrawAux_bsq]
  refine Entering.enters (x := x) (by rw [hbsq]; exact hx) ⟨by simp, ?_, ?_, ?_⟩ (.inl ?_)
  · rw [stepEntered_srs, removeStep_srs, stepNotified_srs]
    refine hring.removed (by omega) (by rw [withdrawAux_srs]; omega) ?_ fun y hy => ?_
    · rw [withdrawAux_srs, hadmitted]
      exact (Nat.sub_sub x.stepCount x.index 1)
    · obtain rfl := Option.some.inj hy
      exact hnext
  · rw [stepEntered_oau, removeStep_oau]
    exact hentries
  · rw [stepEntered_oau, removeStep_oau, hreserved]
    exact hs.reserved (by rw [hx]; rfl)
  · rw [hbsq]
    exact ⟨hrun, hs.bay.holds_empty (by simp [hrun])⟩

theorem programEnded_inStep {x : Context} (result : Result) (hs : BayInStep b s)
    (hx : (s.bsq.get b).context = some x) (hf : isFinalStep x = true) : BayInStep b (programEnded b result x s) := by
  have hring : RingInStep (some x) (s.srs.get b) := hx ▸ hs.ring
  have hlast : x.stepCount ≤ x.index + 1 := by simpa [isFinalStep] using hf
  have hindex := hring.index x rfl
  have hadmitted : (s.srs.get b).admitted = x.stepCount - x.index := hring.admitted
  have hinside := hring.inside
  have hbsq : (programEnded b result x s).bsq.get b =
      { s.bsq.get b with state := .idle, context := none, holds := HoldSet.empty } := by
    simp [programEnded, becomeIdle_bsq, removeStep_bsq, postOutcome_bsq]
  have hsrs : (programEnded b result x s).srs.get b = { s.srs.get b with
      records := (s.srs.get b).records.drop 1
      c := (s.srs.get b).c + BitVec.ofNat 8 1
      admitted := (s.srs.get b).admitted - 1 } := by
    simp only [programEnded, becomeIdle, driveBay_srs, raisePanel_srs, setBsq_srs, removeStep_srs, postOutcome_srs,
      withdrawAux_srs]
  have hoau : (programEnded b result x s).oau.get b =
      (postOutcome b .final (stepOutcome b x result true (withdrawAux b s)) (withdrawAux b s)).oau.get b := by
    simp only [programEnded, becomeIdle, driveBay_oau, raisePanel_oau, setBsq_oau, removeStep_oau]
  rw [BayInStep, hbsq, hsrs, hoau, postOutcome_ring]
  refine .of_none (bayLaw_none rfl rfl rfl) rfl ?_ ?_
  · exact hring.removed (by omega) (by omega) (by rw [hadmitted]; simp only [stepsLeft]; omega) fun _ h => nomatch h
  · exact (entriesTaken_final _ (hs.reserved (by rw [hx]; rfl))).trans_le hs.entries

/-! ### Admission -/

theorem rejectProgram_inStep {program : List StepRecord} (index : Nat) (reason : RejectReason) (tag : Byte)
    (hs : BayInStep b s) (ha : admissible b s = true) (hp : headProgram (s.srs.get b).records = some program) :
    BayInStep b (rejectProgram b program.length index reason tag s) := by
  obtain ⟨hidle, hfree⟩ := admissible_idle ha
  have hnone := hs.bay.2.2.2 (.inl hidle)
  have hbsq : (rejectProgram b program.length index reason tag s).bsq = s.bsq := by
    rw [rejectProgram, removeHead_bsq, postOutcome_bsq]
  rw [BayInStep, hbsq]
  have hlen := (headProgram_length hp).2
  have hadmitted : (s.srs.get b).admitted = 0 := by rw [hs.ring.admitted, hnone]; rfl
  refine .of_none hs.bay hnone ?_ ?_
  · simp only [rejectProgram, removeHead, setRing_srs, PerBay.get_set_same, postOutcome_srs]
    exact hs.ring.removed hlen (by omega) hadmitted fun _ h => nomatch h
  · have hlt := entriesTaken_lt hfree
    simp only [rejectProgram, removeHead_oau, postOutcome_ring]
    simp only [entriesTaken, List.length_append, List.length_singleton, reduceCtorEq, if_false] at hlt ⊢
    omega

theorem accepted_inStep {program : List StepRecord} (hs : BayInStep b s) (ha : admissible b s = true)
    (hp : headProgram (s.srs.get b).records = some program) (hf : firstFailure s.pts.table 0 program = none) :
    BayInStep b (enterStep b 0 (programAdmitted b program s)) := by
  obtain ⟨-, hfree⟩ := admissible_idle ha
  obtain ⟨hone, hlen⟩ := headProgram_length hp
  have hcopies := clampProgram_length hf
  refine Entering.enters (by simp [programAdmitted]; rfl) ⟨by simp, ?_, ?_, ?_⟩ (.inr ?_)
  · simp only [stepEntered_srs, programAdmitted, setBsq_srs, setRing_srs, PerBay.get_set_same]
    exact ⟨hs.ring.room, hs.ring.counts, hlen, rfl, fun y hy => by obtain rfl := Option.some.inj hy; exact hone⟩
  · simp only [stepEntered_oau, programAdmitted, setBsq_oau, setRing_oau, setOutcomes_oau, PerBay.get_set_same]
    have hlt := entriesTaken_lt hfree
    simp only [entriesTaken, Bool.toNat_true] at hlt ⊢
    omega
  · simp [programAdmitted]
  · change (clampProgram s.pts.table program).1[0]? ≠ none
    rw [List.getElem?_eq_getElem (by omega)]
    simp

/-! ### Parks -/

theorem enterParking_inStep (result : ParkResult) (hs : BayInStep b s) : BayInStep b (enterParking b result s) := by
  cases hp : inProgress (s.bsq.get b) with
  | false => rwa [enterParking_else b result s hp]
  | true =>
    obtain ⟨hsrs, hoau⟩ := enterParking_rings b s result
    obtain ⟨x, hx⟩ := Option.isSome_iff_exists.mp (hs.bay.2.1 hp)
    have hring : RingInStep (some x) (s.srs.get b) := hx ▸ hs.ring
    rw [BayInStep, hsrs, hoau, enterParking_bsq b result s hp, hx]
    refine ⟨⟨by simp, fun h => ?_, fun _ y hy => ?_, fun h => ?_⟩, hring.same ⟨rfl, rfl⟩, ?_,
      fun _ => hs.reserved (by rw [hx]; rfl), fun hn => absurd hn (not_notifies_of_state (by simp) (by simp))⟩
    · simp [inProgress] at h
    · obtain rfl := Option.some.inj hy
      simp
    · simp at h
    · have hsum := hs.entries
      simp only [entriesTaken, hp, if_true, Bool.toNat_false] at hsum ⊢
      omega

theorem parkEnded_inStep (hs : BayInStep b s) (hpark : (s.bsq.get b).state = .parking) :
    BayInStep b (parkEnded b s) := by
  have hholds : (s.bsq.get b).holds = HoldSet.empty := hs.bay.holds_empty (by simp [hpark])
  have hbay : BayLaw ((parkEnded b s).bsq.get b) ∧ ((parkEnded b s).bsq.get b).context = none := by
    simp only [parkEnded, driveBay_bsq, raisePanel_bsq, setBsq_bsq, PerBay.get_set_same, closeProgram_bsq, and_true]
    refine bayLaw_none rfl ?_ hholds
    cases (s.bsq.get b).faultAfterPark <;> rfl
  have hsrs : (parkEnded b s).srs = (closeProgram b s).srs := by simp [parkEnded]
  have hoau : (parkEnded b s).oau = (closeProgram b s).oau := by simp [parkEnded]
  rw [BayInStep, hsrs, hoau]
  cases hx : (s.bsq.get b).context with
  | none =>
    rw [closeProgram_none b s hx]
    exact .of_none hbay.1 hbay.2 (hx ▸ hs.ring) hs.entries
  | some x =>
    obtain ⟨r, hr⟩ := Option.ne_none_iff_exists'.mp (hs.bay.2.2.1 hpark x hx)
    obtain ⟨hring, hposted⟩ := closeProgram_rings b s hx hr
    refine .of_none hbay.1 hbay.2 ?_ ?_
    · rw [hring]
      exact hs.ring.removed hs.ring.inside (Nat.zero_le _) rfl fun _ h => nomatch h
    · rw [hposted, postOutcome_ring]
      exact (entriesTaken_final _ (hs.reserved (by rw [hx]; rfl))).trans_le hs.entries

/-! ### Rings that are filled and emptied -/

/-- A ring with an admitted step keeps its head when records go or come behind the admitted part (R28). -/
theorem ringNotify_of_head {r t : StepRing} (h : t.records.head? = r.records.head?) : ringNotify t = ringNotify r := by
  rw [ringNotify, h]
  rfl

theorem BayInStep.admitted_pos (hs : BayInStep b s) {x : Context} (hx : (s.bsq.get b).context = some x) :
    1 ≤ (s.srs.get b).admitted := by
  have hadmitted := hs.ring.admitted
  have hindex := hs.ring.index x hx
  rw [hx, stepsLeft] at hadmitted
  omega

theorem withBatch_inStep {records : List StepRecord} (n : Nat) (hs : BayInStep b s)
    (hroom : (s.srs.get b).records.length + records.length ≤ ringPlaces) : BayInStep b (withBatch b records n s) := by
  have hring := hs.ring
  have hinside := hring.inside
  rw [BayInStep, withBatch]
  simp only [setRing_bsq, setRing_oau, setRing_srs, PerBay.get_set_same]
  refine ⟨hs.bay, ⟨by simpa using hroom, ?_, by simp only [List.length_append]; omega, hring.admitted, hring.index⟩,
    hs.entries, hs.reserved, ?_⟩
  · change (s.srs.get b).p + BitVec.ofNat 8 records.length = _
    rw [hring.counts, List.length_append, BitVec.ofNat_add, BitVec.add_assoc]
  · rintro ⟨c, x, hc, hx, hn, hf⟩
    refine hs.promised ⟨c, x, hc, hx, ?_, hf⟩
    have hpos := hs.admitted_pos hx
    obtain ⟨r, rest, hrec⟩ := List.exists_cons_of_length_pos (l := (s.srs.get b).records) (by omega)
    rw [ringNotify_of_head (r := s.srs.get b) (by simp [hrec])] at hn
    exact hn

theorem cancelled_inStep (rec : Outcome) (hs : BayInStep b s) (hfree : 1 ≤ freeEntries (s.oau.get b)) :
    BayInStep b (postOutcome b .other rec (withoutBehind b s)) := by
  have hring := hs.ring
  have hinside := hring.inside
  have hroom := hring.room
  rw [BayInStep, postOutcome_bsq, postOutcome_srs, postOutcome_ring]
  simp only [withoutBehind, setRing_bsq, setRing_oau, setRing_srs, PerBay.get_set_same]
  refine ⟨hs.bay, ⟨?_, ?_, ?_, hring.admitted, hring.index⟩, ?_, hs.reserved, ?_⟩
  · simp only [List.length_take]
    omega
  · change (s.srs.get b).c + _ = _
    rw [List.length_take, Nat.min_eq_left hinside]
  · simp only [List.length_take]
    omega
  · have hlt := entriesTaken_lt hfree
    simp only [entriesTaken, List.length_append, List.length_singleton, reduceCtorEq, if_false] at hlt ⊢
    omega
  · rintro ⟨c, x, hc, hx, hn, hf⟩
    refine hs.promised ⟨c, x, hc, hx, ?_, hf⟩
    have hpos := hs.admitted_pos hx
    rw [ringNotify_of_head (r := s.srs.get b) (by rw [List.head?_take, if_neg (by omega)])] at hn
    exact hn

/-! ### Every move, and every step -/

theorem emptyRing_inStep : RingInStep none ⟨[], 0, 0, 0, 0⟩ :=
  ⟨Nat.zero_le _, rfl, le_refl _, rfl, fun _ h => nomatch h⟩

theorem startStep_inStep (hs : BayInStep b s)
    (hfree : 1 ≤ freeEntries (s.oau.get b)) : BayInStep b (startStep b s) := by
  have hform := startStep_form b s
  generalize startStep b s = t at hform ⊢
  cases hform with
  | none => exact hs
  | starts hx => exact Entering.starts ⟨hx, hx ▸ hs.ring, hs.entries, hs.reserved (by rw [hx]; rfl)⟩ fun _ _ => .inr hfree

theorem BayMove.inStep {t : State} (h : BayMove b s t) (hs : BayInStep b s) : BayInStep b t := by
  cases h with
  | holds h => exact changeHolds_inStep h hs
  | count hx hy => exact hs.counted hx (by simp [setContext]) hy (by simp [setContext]) (by simp [setContext])
  | start _ hfree => exact startStep_inStep hs hfree
  | givesWay result hc hx hf => exact stepGivesWay_inStep result hs hc hx hf
  | ends result _ hx hf => exact programEnded_inStep result hs hx hf
  | reject index reason tag ha hp => exact rejectProgram_inStep index reason tag hs ha hp
  | accept ha hp hf => exact accepted_inStep hs ha hp hf
  | park result => exact enterParking_inStep result hs
  | parkEnds hpark => exact parkEnded_inStep hs hpark
  | append n hroom => exact withBatch_inStep n hs hroom
  | cancel hfree => exact cancelled_inStep _ hs hfree
  | parkCount => exact hs.congr (by simp) (by simp) (by simp)
  | clear hfaulted =>
    have hnone := hs.bay.2.2.2 (.inr (.inl hfaulted))
    refine .of_none ?_ (by simpa using hnone) (by simpa [hnone] using hs.ring) (by simpa using hs.entries)
    simpa using bayLaw_none (q := { s.bsq.get b with state := .idle }) hnone rfl (hs.bay.holds_empty (by simp [hfaulted]))
  | free hk =>
    refine ⟨hs.bay, hs.ring, ?_, fun h => ?_, fun hn => ?_⟩
    · have hsum := hs.entries
      simp only [entriesTaken, setOutcomes_oau, PerBay.get_set_same, List.length_drop] at hsum ⊢
      omega
    · simpa using hs.reserved h
    · simpa using hs.promised hn
  | restart =>
    obtain ⟨hsrs, hoau, hbsq⟩ := restartBay_rings b s
    rw [BayInStep, hsrs, hoau, hbsq]
    refine .of_none (bayLaw_none rfl ?_ rfl) rfl emptyRing_inStep (Nat.zero_le _)
    cases hp : inProgress (s.bsq.get b) with
    | true => rfl
    | false => exact hp
  | outputs | heater => exact hs
  | panel => exact hs.congr (by simp) (by simp) (by simp)

end

theorem inStep_kept : KeptByBay InStep where
  move h hs := h.inStep hs
  tick {q r o} hs := by
    obtain ⟨hstate, hholds⟩ := tickBay_state q
    cases hx : q.context with
    | none => exact hs.congr hstate hholds (by rw [tickBay_none hx, hx])
    | some x =>
      obtain ⟨y, hy, hsame⟩ := tickBay_some hx
      exact hs.counted hx hy hsame hstate hholds
  reset fitted := .of_none (bayLaw_none rfl (by cases fitted <;> rfl) rfl) rfl emptyRing_inStep (Nat.zero_le _)

/-- Settles O58: the counts, the copies, and the rest of the laws together, each bay by bay. -/
theorem programsAndRingsStayInStep : Obligations.ProgramsAndRingsStayInStep := by
  refine ⟨keptByStep_eachBay outcomeCounts_kept, keptByStep_eachBay copies_kept, fun s t hs h => ?_⟩
  exact (inStep_iff t).mpr (keptByStep_eachBay inStep_kept s t ((inStep_iff s).mp hs) h)

end Sys2Proof.Machine
end

section
/-! The heater shares (R90, R91): the first pass by weight, the order, and the cycles of the second pass. -/

namespace Sys2Proof.Machine

/-- A requestor without its grant: what it asks for. -/
def asked (r : Requestor) : Requestor := { r with grant := 0 }

theorem asked_eq {r r' : Requestor} (h : asked r' = asked r) :
    r'.bay = r.bay ∧ r'.demand = r.demand ∧ r'.quantum = r.quantum ∧ r'.weight = r.weight := by
  simpa [asked] using h

/-- Demand and grant of a requestor are whole quanta, and the grant is no more than the demand. -/
structure Fitting (r : Requestor) : Prop where
  quantum : 0 < r.quantum
  demand : r.quantum ∣ r.demand
  grant : r.quantum ∣ r.grant
  within : r.grant ≤ r.demand

/-- A requestor after some cycles of the second pass. -/
structure Raised (r r' : Requestor) : Prop where
  asked : asked r' = asked r
  more : r.grant ≤ r'.grant
  fitting : Fitting r → Fitting r'

theorem Raised.refl (r : Requestor) : Raised r r := ⟨rfl, le_refl _, id⟩

theorem Raised.trans {r r' r'' : Requestor} (h : Raised r r') (k : Raised r' r'') : Raised r r'' :=
  ⟨k.asked.trans h.asked, h.more.trans k.more, k.fitting ∘ h.fitting⟩

/-- Another quantum to a requestor below its demand. -/
theorem raised_by_quantum {r : Requestor} (h : r.grant < r.demand) :
    Raised r { r with grant := r.grant + r.quantum } := by
  refine ⟨rfl, Nat.le_add_right _ _, fun hr => ⟨hr.quantum, hr.demand, Nat.dvd_add hr.grant dvd_rfl, ?_⟩⟩
  obtain ⟨d, hd⟩ := hr.demand
  obtain ⟨g, hg⟩ := hr.grant
  rw [hd, hg] at h
  change r.grant + r.quantum ≤ r.demand
  rw [hd, hg]
  exact Nat.mul_le_mul_left r.quantum (Nat.lt_of_mul_lt_mul_left h)

theorem sumGrants_cons (r : Requestor) (rs : List Requestor) : sumGrants (r :: rs) = r.grant + sumGrants rs := by
  simp [sumGrants]

/-! ### The second pass (R91) -/

/-- A cycle raises some requestors and takes what it gives from the leftover. -/
theorem shareCycle_raises (left : Nat) (rs : List Requestor) :
    List.Forall₂ Raised rs (shareCycle left rs).1 ∧
      sumGrants (shareCycle left rs).1 + (shareCycle left rs).2 = sumGrants rs + left := by
  induction rs generalizing left with
  | nil => exact ⟨.nil, rfl⟩
  | cons r rs ih =>
    unfold shareCycle
    split
    next h =>
      obtain ⟨hraised, hsum⟩ := ih (left - r.quantum)
      refine ⟨.cons (raised_by_quantum h.1) hraised, ?_⟩
      simp only [sumGrants_cons]
      omega
    next =>
      obtain ⟨hraised, hsum⟩ := ih left
      refine ⟨.cons (.refl r) hraised, ?_⟩
      simp only [sumGrants_cons]
      omega

theorem shareCycle_left_le (left : Nat) (rs : List Requestor) : (shareCycle left rs).2 ≤ left := by
  induction rs generalizing left with
  | nil => exact le_refl left
  | cons r rs ih =>
    unfold shareCycle
    split
    · exact (ih _).trans (Nat.sub_le _ _)
    · exact ih left

/-- A cycle that leaves the leftover as it is has raised no grant: it was too small for every requestor below its demand. -/
theorem shareCycle_of_no_raise {left : Nat} {rs : List Requestor} (hq : ∀ r ∈ rs, 0 < r.quantum)
    (h : (shareCycle left rs).2 = left) :
    (shareCycle left rs).1 = rs ∧ ∀ r ∈ rs, r.grant < r.demand → left < r.quantum := by
  induction rs with
  | nil => exact ⟨rfl, fun r hr => absurd hr List.not_mem_nil⟩
  | cons r rs ih =>
    have hr := hq r List.mem_cons_self
    unfold shareCycle at h ⊢
    split at h
    next hfits =>
      have hle := shareCycle_left_le (left - r.quantum) rs
      dsimp only at h
      omega
    next hfits =>
      obtain ⟨hsame, hsmall⟩ := ih (fun x hx => hq x (List.mem_cons_of_mem r hx)) h
      rw [if_neg hfits]
      refine ⟨congrArg (r :: ·) hsame, fun x hx hlt => ?_⟩
      rcases List.mem_cons.mp hx with rfl | hx
      · exact Nat.lt_of_not_le fun hle => hfits ⟨hlt, hle⟩
      · exact hsmall x hx hlt

theorem forall₂_raised_trans {xs ys zs : List Requestor} (h : List.Forall₂ Raised xs ys)
    (k : List.Forall₂ Raised ys zs) : List.Forall₂ Raised xs zs := by
  induction h generalizing zs with
  | nil => cases k; exact .nil
  | cons hr _ ih =>
    cases k with
    | cons hs k => exact .cons (hr.trans hs) (ih k)

theorem forall₂_raised_refl (rs : List Requestor) : List.Forall₂ Raised rs rs :=
  List.forall₂_same.mpr fun r _ => .refl r

/-- The cycles raise some requestors, and take what they give from the leftover. -/
theorem shareCycles_raises (fuel left : Nat) (rs : List Requestor) :
    List.Forall₂ Raised rs (shareCycles fuel left rs) ∧
      sumGrants (shareCycles fuel left rs) ≤ sumGrants rs + left := by
  induction fuel generalizing left rs with
  | zero => exact ⟨forall₂_raised_refl rs, Nat.le_add_right _ _⟩
  | succ fuel ih =>
    obtain ⟨hraised, hsum⟩ := shareCycle_raises left rs
    unfold shareCycles
    dsimp only
    split
    · exact ⟨hraised, by omega⟩
    · obtain ⟨hmore, htotal⟩ := ih (shareCycle left rs).2 (shareCycle left rs).1
      exact ⟨forall₂_raised_trans hraised hmore, by omega⟩

theorem quantum_of_raised {xs ys : List Requestor} (h : List.Forall₂ Raised xs ys) (hq : ∀ r ∈ xs, 0 < r.quantum) :
    ∀ r ∈ ys, 0 < r.quantum := by
  induction h with
  | nil => exact fun r hr => absurd hr List.not_mem_nil
  | @cons x y _ _ hr _ ih =>
    intro r hmem
    rcases List.mem_cons.mp hmem with rfl | hmem
    · obtain ⟨-, -, hsame, -⟩ := asked_eq hr.asked
      exact hsame ▸ hq x List.mem_cons_self
    · exact ih (fun z hz => hq z (List.mem_cons_of_mem x hz)) r hmem

/-- With a cycle for each watt of the leftover, and one more, what stays is less than the quantum of any requestor below its
demand (R91). -/
theorem shareCycles_leaves_less {fuel left : Nat} {rs : List Requestor} (hfuel : left < fuel)
    (hq : ∀ r ∈ rs, 0 < r.quantum) :
    ∀ r ∈ shareCycles fuel left rs, r.grant < r.demand →
      sumGrants rs + left - sumGrants (shareCycles fuel left rs) < r.quantum := by
  induction fuel generalizing left rs with
  | zero => omega
  | succ fuel ih =>
    obtain ⟨hraised, hsum⟩ := shareCycle_raises left rs
    have hle := shareCycle_left_le left rs
    unfold shareCycles
    dsimp only
    split
    next hsame =>
      obtain ⟨hrs, hsmall⟩ := shareCycle_of_no_raise hq hsame
      rw [hrs]
      intro r hr hlt
      have := hsmall r hr hlt
      omega
    next hless =>
      intro r hr hlt
      have := ih (left := (shareCycle left rs).2) (by omega) (quantum_of_raised hraised hq) r hr hlt
      omega

/-! ### The order (R91) -/

theorem insertRequestor_perm (r : Requestor) (rs : List Requestor) : (insertRequestor r rs).Perm (r :: rs) := by
  induction rs with
  | nil => exact .refl _
  | cons x xs ih =>
    unfold insertRequestor
    split
    · exact .refl _
    · exact (ih.cons x).trans (.swap r x xs)

theorem orderRequestors_perm (rs : List Requestor) : (orderRequestors rs).Perm rs := by
  induction rs with
  | nil => exact .refl _
  | cons r rs ih => exact (insertRequestor_perm r _).trans (ih.cons r)

/-- Descending weight, and a relation among equal weights. -/
def Before (first : Requestor → Requestor → Prop) (x y : Requestor) : Prop :=
  y.weight < x.weight ∨ (x.weight = y.weight ∧ first x y)

theorem Before.le {first : Requestor → Requestor → Prop} {x y : Requestor} (h : Before first x y) :
    y.weight ≤ x.weight := by
  rcases h with h | ⟨h, -⟩
  · exact Nat.le_of_lt h
  · exact Nat.le_of_eq h.symm

theorem insertRequestor_pairwise {first : Requestor → Requestor → Prop} {r : Requestor} {rs : List Requestor}
    (hr : ∀ x ∈ rs, first r x) (h : rs.Pairwise (Before first)) : (insertRequestor r rs).Pairwise (Before first) := by
  induction rs with
  | nil => exact List.pairwise_singleton _ _
  | cons x xs ih =>
    obtain ⟨hx, hxs⟩ := List.pairwise_cons.mp h
    unfold insertRequestor
    split
    next hle =>
      refine List.pairwise_cons.mpr ⟨fun y hy => ?_, h⟩
      have hyx : y.weight ≤ x.weight := by
        rcases List.mem_cons.mp hy with rfl | hy
        · exact le_refl _
        · exact (hx y hy).le
      rcases Nat.lt_or_eq_of_le (hyx.trans hle) with hlt | heq
      · exact .inl hlt
      · exact .inr ⟨heq.symm, hr y hy⟩
    next hgt =>
      refine List.pairwise_cons.mpr ⟨fun y hy => ?_, ih (fun z hz => hr z (List.mem_cons_of_mem x hz)) hxs⟩
      rcases List.mem_cons.mp ((insertRequestor_perm r xs).mem_iff.mp hy) with rfl | hy
      · exact .inl (Nat.lt_of_not_le hgt)
      · exact hx y hy

/-- The requestors in descending weight; those of equal weight as they came (R91). -/
theorem orderRequestors_pairwise {first : Requestor → Requestor → Prop} {rs : List Requestor}
    (h : rs.Pairwise first) : (orderRequestors rs).Pairwise (Before first) := by
  induction rs with
  | nil => exact .nil
  | cons r rs ih =>
    obtain ⟨hr, hrs⟩ := List.pairwise_cons.mp h
    exact insertRequestor_pairwise (fun x hx => hr x ((orderRequestors_perm rs).mem_iff.mp hx)) (ih hrs)

/-! ### The first pass (R90) -/

/-- What a weight is given by the first pass, whole quanta of it, is no more than its part. -/
theorem sumGrants_firstGrant_le (r2 w : Nat) (rs : List Requestor) :
    sumGrants (rs.map (firstGrant r2 w)) ≤ r2 * sumWeights rs / w := by
  induction rs with
  | nil => exact Nat.zero_le _
  | cons r rs ih =>
    have hone : (firstGrant r2 w r).grant ≤ r2 * r.weight / w :=
      (Nat.min_le_right _ _).trans (Nat.mul_div_le _ _)
    have hweights : sumWeights (r :: rs) = r.weight + sumWeights rs := by simp [sumWeights]
    rw [List.map_cons, sumGrants_cons, hweights, Nat.mul_add]
    exact (Nat.add_le_add hone ih).trans Nat.div_add_div_le_add_div

/-- The first pass gives no more than there is. -/
theorem firstPass_le (r2 : Nat) (rs : List Requestor) :
    sumGrants (rs.map (firstGrant r2 (sumWeights rs))) ≤ r2 := by
  refine (sumGrants_firstGrant_le r2 _ rs).trans ?_
  rcases Nat.eq_zero_or_pos (sumWeights rs) with h | h
  · simp [h]
  · rw [Nat.mul_div_cancel _ h]

theorem firstGrant_fitting {r2 w : Nat} {r : Requestor} (hq : 0 < r.quantum) (hd : r.quantum ∣ r.demand) :
    Fitting (firstGrant r2 w r) := by
  refine ⟨hq, hd, ?_, Nat.min_le_left _ _⟩
  rcases Nat.le_total r.demand (r.quantum * (r2 * r.weight / w / r.quantum)) with h | h
  · change r.quantum ∣ min _ _
    rw [Nat.min_eq_left h]
    exact hd
  · change r.quantum ∣ min _ _
    rw [Nat.min_eq_right h]
    exact Nat.dvd_mul_right _ _

/-! ### The shares -/

theorem sumGrants_perm {xs ys : List Requestor} (h : xs.Perm ys) : sumGrants xs = sumGrants ys :=
  (h.map Requestor.grant).sum_eq

/-- The requestors after the first pass, in their order. -/
def firstPass (r2 : Nat) (rs : List Requestor) : List Requestor :=
  orderRequestors (rs.map (firstGrant r2 (sumWeights rs)))

theorem firstPass_perm (r2 : Nat) (rs : List Requestor) :
    (firstPass r2 rs).Perm (rs.map (firstGrant r2 (sumWeights rs))) := orderRequestors_perm _

theorem firstPass_sum_le (r2 : Nat) (rs : List Requestor) : sumGrants (firstPass r2 rs) ≤ r2 :=
  (sumGrants_perm (firstPass_perm r2 rs)).trans_le (firstPass_le r2 rs)

theorem shareHeaters_of_fits {r2 : Nat} {rs : List Requestor} (h : sumDemands rs ≤ r2) :
    shareHeaters r2 rs = rs.map fun r => { r with grant := r.demand } := if_pos h

theorem shareHeaters_of_short {r2 : Nat} {rs : List Requestor} (h : r2 < sumDemands rs) :
    shareHeaters r2 rs =
      shareCycles (r2 - sumGrants (firstPass r2 rs) + 1) (r2 - sumGrants (firstPass r2 rs)) (firstPass r2 rs) :=
  if_neg (Nat.not_le.mpr h)

theorem map_asked_of_raised {xs ys : List Requestor} (h : List.Forall₂ Raised xs ys) : ys.map asked = xs.map asked := by
  induction h with
  | nil => rfl
  | cons hr _ ih => simp only [List.map_cons, hr.asked, ih]

/-- The shares are the requestors, each with its grant. -/
theorem shareHeaters_asked (r2 : Nat) (rs : List Requestor) :
    ((shareHeaters r2 rs).map asked).Perm (rs.map asked) := by
  rcases Nat.lt_or_ge r2 (sumDemands rs) with h | h
  · rw [shareHeaters_of_short h, map_asked_of_raised (shareCycles_raises _ _ _).1]
    refine ((firstPass_perm r2 rs).map asked).trans ?_
    rw [List.map_map]
    exact .refl _
  · rw [shareHeaters_of_fits h, List.map_map]
    exact .refl _

theorem sumGrants_of_demands (rs : List Requestor) :
    sumGrants (rs.map fun r => { r with grant := r.demand }) = sumDemands rs := by
  simp [sumGrants, sumDemands, Function.comp_def]

/-- The shares are no more than there is. -/
theorem shareHeaters_sum_le (r2 : Nat) (rs : List Requestor) : sumGrants (shareHeaters r2 rs) ≤ r2 := by
  rcases Nat.lt_or_ge r2 (sumDemands rs) with h | h
  · rw [shareHeaters_of_short h]
    have hsum := (shareCycles_raises (r2 - sumGrants (firstPass r2 rs) + 1) (r2 - sumGrants (firstPass r2 rs))
      (firstPass r2 rs)).2
    have hle := firstPass_sum_le r2 rs
    omega
  · rw [shareHeaters_of_fits h, sumGrants_of_demands]
    exact h

theorem exists_of_raised {xs ys : List Requestor} (h : List.Forall₂ Raised xs ys) {y : Requestor} (hy : y ∈ ys) :
    ∃ x ∈ xs, Raised x y := by
  induction h with
  | nil => exact absurd hy List.not_mem_nil
  | @cons x z _ _ hr _ ih =>
    rcases List.mem_cons.mp hy with rfl | hy
    · exact ⟨x, List.mem_cons_self, hr⟩
    · obtain ⟨w, hw, hraised⟩ := ih hy
      exact ⟨w, List.mem_cons_of_mem x hw, hraised⟩

/-- Where the demands do not fit, each share comes of what the first pass gave its requestor. -/
theorem shareHeaters_of_first {r2 : Nat} {rs : List Requestor} (h : r2 < sumDemands rs) {r : Requestor}
    (hr : r ∈ shareHeaters r2 rs) : ∃ x ∈ rs, Raised (firstGrant r2 (sumWeights rs) x) r := by
  rw [shareHeaters_of_short h] at hr
  obtain ⟨y, hy, hraised⟩ := exists_of_raised (shareCycles_raises _ _ _).1 hr
  obtain ⟨x, hx, rfl⟩ := List.mem_map.mp ((firstPass_perm r2 rs).mem_iff.mp hy)
  exact ⟨x, hx, hraised⟩

/-- Every share is whole quanta and no more than the demand. -/
theorem shareHeaters_fitting {r2 : Nat} {rs : List Requestor}
    (hrs : ∀ r ∈ rs, 0 < r.quantum ∧ r.quantum ∣ r.demand) : ∀ r ∈ shareHeaters r2 rs, Fitting r := by
  intro r hr
  rcases Nat.lt_or_ge r2 (sumDemands rs) with h | h
  · obtain ⟨x, hx, hraised⟩ := shareHeaters_of_first h hr
    exact hraised.fitting (firstGrant_fitting (hrs x hx).1 (hrs x hx).2)
  · rw [shareHeaters_of_fits h] at hr
    obtain ⟨x, hx, rfl⟩ := List.mem_map.mp hr
    exact ⟨(hrs x hx).1, (hrs x hx).2, (hrs x hx).2, le_refl _⟩

theorem weight_pairwise_of_raised {xs ys : List Requestor} (h : List.Forall₂ Raised xs ys)
    (hx : xs.Pairwise fun x y => y.weight ≤ x.weight) : ys.Pairwise fun x y => y.weight ≤ x.weight := by
  have hweights : ys.map Requestor.weight = xs.map Requestor.weight := by
    have := congrArg (List.map Requestor.weight) (map_asked_of_raised h)
    rwa [List.map_map, List.map_map] at this
  rw [← List.pairwise_map (f := Requestor.weight) (R := fun a b => b ≤ a)] at hx ⊢
  rwa [hweights]

/-- Where the demands do not fit, the shares stand in descending weight. -/
theorem shareHeaters_pairwise {r2 : Nat} {rs : List Requestor} (h : r2 < sumDemands rs) :
    (shareHeaters r2 rs).Pairwise fun x y => y.weight ≤ x.weight := by
  rw [shareHeaters_of_short h]
  refine weight_pairwise_of_raised (shareCycles_raises _ _ _).1 ?_
  have hordered := orderRequestors_pairwise (first := fun _ _ => True)
    (rs := rs.map (firstGrant r2 (sumWeights rs))) (List.pairwise_of_forall fun _ _ => trivial)
  exact hordered.imp Before.le

/-- What is left over is less than the quantum of any requestor below its demand. -/
theorem shareHeaters_leaves_less {r2 : Nat} {rs : List Requestor} (h : r2 < sumDemands rs)
    (hq : ∀ r ∈ rs, 0 < r.quantum) :
    ∀ r ∈ shareHeaters r2 rs, r.grant < r.demand → r2 - sumGrants (shareHeaters r2 rs) < r.quantum := by
  have hle := firstPass_sum_le r2 rs
  have hquanta : ∀ r ∈ firstPass r2 rs, 0 < r.quantum := fun r hr => by
    obtain ⟨x, hx, rfl⟩ := List.mem_map.mp ((firstPass_perm r2 rs).mem_iff.mp hr)
    exact hq x hx
  intro r hr hlt
  rw [shareHeaters_of_short h] at hr ⊢
  have := shareCycles_leaves_less (Nat.lt_add_one _) hquanta r hr hlt
  omega

/-- Settles O46: by the first pass, its order, and the cycles that raise it. -/
theorem heaterSharesFillQuantaByWeight : Obligations.HeaterSharesFillQuantaByWeight := by
  intro r2 rs hrs
  refine ⟨shareHeaters_asked r2 rs, shareHeaters_sum_le r2 rs, fun r hr => ?_, fun h r hr => ?_,
    fun h => ⟨shareHeaters_pairwise h, fun r hr => ⟨?_, ?_⟩⟩⟩
  · have hfit := shareHeaters_fitting hrs r hr
    exact ⟨hfit.within, hfit.grant⟩
  · rw [shareHeaters_of_fits h] at hr
    obtain ⟨x, hx, rfl⟩ := List.mem_map.mp hr
    rfl
  · obtain ⟨x, -, hraised⟩ := shareHeaters_of_first h hr
    obtain ⟨-, hdemand, hquantum, hweight⟩ := asked_eq (r := x) hraised.asked
    rw [hdemand, hquantum, hweight]
    exact hraised.more
  · exact shareHeaters_leaves_less h (fun x hx => (hrs x hx).1) r hr

end Sys2Proof.Machine
end

section
/-! The boiler's carry and heater grant, and where it rests (R94, R106, R108, R110). -/

namespace Sys2Proof.Machine

/-! ### What leaves the boiler as it is -/

/-- State, lock cause, carry and heater grant of the boiler are as they were. -/
structure BoilerSame (s t : State) : Prop where
  state : t.blc.state = s.blc.state
  cause : t.blc.cause = s.blc.cause
  carry : t.blc.carry = s.blc.carry
  grant : t.pae.grants.boiler = s.pae.grants.boiler

namespace BoilerSame

variable {s t u : State}

theorem refl (s : State) : BoilerSame s s := by constructor <;> rfl

theorem trans (h : BoilerSame s t) (k : BoilerSame t u) : BoilerSame s u where
  state := k.state.trans h.state
  cause := k.cause.trans h.cause
  carry := k.carry.trans h.carry
  grant := k.grant.trans h.grant

theorem of_bay {b : Bay} (h : BayFrame b s t) : BoilerSame s t where
  state := by rw [h.blc]
  cause := by rw [h.blc]
  carry := by rw [h.blc]
  grant := by rw [h.pae]

theorem forBays {f : Bay → State → State} (h : ∀ b s, BoilerSame s (f b s)) (s : State) :
    BoilerSame s (forBays f s) :=
  (((h .b0 s).trans (h .b1 _)).trans (h .b2 _)).trans (h .b3 _)

end BoilerSame

theorem forceCompressorOff_boilerSame (s : State) : BoilerSame s (forceCompressorOff s) := by
  unfold forceCompressorOff
  split
  · have hoff : BoilerSame s (withdrawCompressor (compressorOff s)) := by constructor <;> rfl
    exact hoff.trans (.forBays (fun b s => .of_bay (reholdPower_frame b s)) _)
  · exact .refl s

theorem channelFault_boilerSame (b : Bay) (old new : Channel) (s : State) :
    BoilerSame s (channelFault b old new s) := by
  unfold channelFault
  split
  · have hraised : BoilerSame s (raiseSup .sensorFault s) := by constructor <;> rfl
    exact hraised.trans (.of_bay (baySensorFault_frame b _))
  · exact .refl s

theorem temperatureTaken_boilerSame (b : Bay) (old new : Channel) (s : State) :
    BoilerSame s (temperatureTaken b old new s) := by
  have hfault := channelFault_boilerSame b old new s
  unfold temperatureTaken
  dsimp only
  refine BoilerSame.trans ?_ (.of_bay (formDemand_frame b _))
  split
  · exact hfault.trans (.of_bay (withdrawAux_frame b _))
  · exact hfault

theorem standbyHeld_boilerSame (s : State) :
    BoilerSame s (forBays reholdStandby { s with moc := { s.moc with phase := .standby } }) := by
  have hphase : BoilerSame s { s with moc := { s.moc with phase := .standby } } := by constructor <;> rfl
  exact hphase.trans (.forBays (fun b s => .of_bay (reholdStandby_frame b s)) _)

theorem enterSleep_boiler (s : State) :
    (enterSleep s).blc.state = s.blc.state ∧ (enterSleep s).blc.cause = s.blc.cause ∧
      (enterSleep s).blc.carry = 0 ∧ (enterSleep s).blc.valves = PerBay.fill false ∧ (enterSleep s).pae.grants = GrantTable.zero := by
  unfold enterSleep
  dsimp only
  split <;> exact ⟨rfl, rfl, rfl, rfl, rfl⟩

/-! ### A move of the boiler -/

theorem toBoiler_carry {next : BoilerState} {s : State} (h : s.blc.state ≠ next) :
    (toBoiler next s).blc.carry = if s.blc.state = .ready then 0 else s.blc.carry := by
  rw [toBoiler_blc next s h]
  rfl

theorem toBoiler_boilerGrant {next : BoilerState} {s : State} (h : s.blc.state ≠ next) :
    (toBoiler next s).pae.grants.boiler =
      if isHot s.blc.state && !isHot next then 0 else s.pae.grants.boiler := by
  rw [toBoiler_of_ne h, forBays_keeps (fun t => t.pae.grants.boiler) fun b s => by rw [driveValve_pae],
    forBays_keeps (fun t => t.pae.grants.boiler) fun b s => by rw [(reholdSteam_frame b s).pae], boilerMoved]
  split <;> rfl

/-! ### The carry (R110) -/

theorem CarryLaw.congr {s t : State} (h : CarryLaw s) (k : BoilerSame s t) : CarryLaw t := by
  simpa only [CarryLaw, k.state, k.carry] using h

theorem CarryLaw.of_zero {s : State} (h : s.blc.carry = 0) : CarryLaw s :=
  ⟨by rw [h]; decide, fun _ => h⟩

theorem toBoiler_carryLaw (next : BoilerState) {s : State} (hs : CarryLaw s) : CarryLaw (toBoiler next s) := by
  by_cases h : s.blc.state = next
  · rw [toBoiler, if_pos h]
    exact hs
  · refine .of_zero ((toBoiler_carry h).trans ?_)
    split
    next => rfl
    next hready => exact hs.2 hready

theorem Move.carryLaw {s t : State} (h : Move s t) (hs : CarryLaw s) : CarryLaw t := by
  cases h with
  | bay b hb => exact hs.congr (.of_bay hb.frame)
  | boilerParts hstate _ _ hcarry =>
    rcases hcarry with hc | hc | ⟨hready, hc⟩
    · exact ⟨hc ▸ hs.1, fun h => hc.trans (hs.2 (hstate ▸ h))⟩
    · exact .of_zero hc
    · exact ⟨hc, fun h => absurd (hstate.trans hready) h⟩
  | boiler => exact toBoiler_carryLaw _ hs
  | lock => exact lockBoiler_keeps hs (toBoiler_carryLaw .locked hs)
  | unlock => exact toBoiler_carryLaw .cold hs
  | round =>
    have hround := allotmentRound_of_decision (s := s) rfl
    rw [hround]
    generalize decideCompressor _ s = d
    cases d <;> exact hs
  | standby =>
    exact enterStandby_keeps (p := CarryLaw) (fun _ h => h) (fun b h s hs => hs.congr (.of_bay (changeHolds_frame b h s)))
      (fun _ => toBoiler_carryLaw .cold) (fun _ h => h) hs
  | sleep => exact .of_zero (enterSleep_boiler s).2.2.1
  | @front b u _ _ _ =>
    have hsense : CarryLaw { s with snu := u } := hs
    exact hsense.congr (.of_bay ((reholdFront_frame b _).trans (driveValve_frame b _)))
  | @tankFull u _ _ =>
    have hsense : CarryLaw { s with snu := u } := hs
    exact hsense.congr (forceCompressorOff_boilerSame _)
  | @temperature b new u _ _ _ =>
    have hsense : CarryLaw { s with snu := u } := hs
    exact hsense.congr (temperatureTaken_boilerSame b _ new _)
  | reset => exact .of_zero rfl
  | queue | link | events | presence | budget | mode | roundTimer | untaken | store | restartPae | wake | senses
  | tick => exact hs

/-! ### The boiler heater grant (R94) -/

/-- A heater that does not take part in a round has no share of it. -/
theorem grantOf_eq_zero {bay : Option Bay} {rs : List Requestor} (h : ∀ r ∈ rs, r.bay ≠ bay) : grantOf bay rs = 0 := by
  induction rs with
  | nil => rfl
  | cons r rs ih =>
    rw [grantOf, if_neg (h r List.mem_cons_self)]
    exact ih fun x hx => h x (List.mem_cons_of_mem r hx)

theorem shareHeaters_bay {r2 : Nat} {rs : List Requestor} {r : Requestor} (h : r ∈ shareHeaters r2 rs) :
    ∃ x ∈ rs, x.bay = r.bay := by
  have hmem : asked r ∈ rs.map asked := (shareHeaters_asked r2 rs).mem_iff.mp (List.mem_map_of_mem h)
  obtain ⟨x, hx, hasked⟩ := List.mem_map.mp hmem
  exact ⟨x, hx, (asked_eq hasked).1⟩

/-- A share of a round is for a heater with a demand (R87). -/
theorem roundTable_zero (d : CompressorDecision) (s : State) :
    (boilerDemand s = 0 → (roundTable d s).boiler = 0) ∧
      ∀ b, (s.alc.bays.get b).demand = 0 → (roundTable d s).aux.get b = 0 := by
  refine ⟨fun h => grantOf_eq_zero fun r hr hbay => ?_, fun b h => ?_⟩
  · obtain ⟨x, hx, hxr⟩ := shareHeaters_bay hr
    obtain ⟨hmem, hpos⟩ := List.mem_filter.mp hx
    simp only [allHeaters, List.mem_cons, List.mem_map] at hmem
    rcases hmem with rfl | ⟨c, -, rfl⟩
    · simp [h] at hpos
    · rw [hbay] at hxr
      cases hxr
  · change (PerBay.ofFn _).get b = 0
    rw [PerBay.get_ofFn]
    refine grantOf_eq_zero fun r hr hbay => ?_
    obtain ⟨x, hx, hxr⟩ := shareHeaters_bay hr
    obtain ⟨hmem, hpos⟩ := List.mem_filter.mp hx
    simp only [allHeaters, List.mem_cons, List.mem_map] at hmem
    rw [hbay] at hxr
    rcases hmem with rfl | ⟨c, -, rfl⟩
    · cases hxr
    · obtain rfl := Option.some.inj hxr
      simp [h] at hpos

theorem boilerDemand_of_not_hot {s : State} (h : isHot s.blc.state = false) : boilerDemand s = 0 := by
  unfold boilerDemand
  cases hs : s.blc.state with
  | heat => simp [hs, isHot] at h
  | ready => simp [hs, isHot] at h
  | _ => rfl

theorem BoilerGrantLaw.congr {s t : State} (h : BoilerGrantLaw s) (k : BoilerSame s t) : BoilerGrantLaw t := by
  simpa only [BoilerGrantLaw, k.state, k.grant] using h

theorem toBoiler_boilerGrantLaw (next : BoilerState) {s : State} (hs : BoilerGrantLaw s) :
    BoilerGrantLaw (toBoiler next s) := by
  by_cases h : s.blc.state = next
  · rw [toBoiler, if_pos h]
    exact hs
  · intro hnext
    rw [toBoiler_state] at hnext
    rw [toBoiler_boilerGrant h]
    cases hhot : isHot s.blc.state with
    | true => simp [hnext]
    | false => simpa using hs hhot

theorem applyDecision_blc (d : CompressorDecision) (s : State) : (applyDecision d s).blc = s.blc := by
  cases d <;> rfl

theorem Move.boilerGrantLaw {s t : State} (h : Move s t) (hs : BoilerGrantLaw s) : BoilerGrantLaw t := by
  cases h with
  | bay b hb => exact hs.congr (.of_bay hb.frame)
  | boilerParts hstate => exact fun h => hs (hstate ▸ h)
  | boiler => exact toBoiler_boilerGrantLaw _ hs
  | lock => exact lockBoiler_keeps hs (toBoiler_boilerGrantLaw .locked hs)
  | unlock => exact toBoiler_boilerGrantLaw .cold hs
  | round =>
    have hround := allotmentRound_of_decision (s := s) rfl
    rw [hround]
    intro hcold
    have hstate : isHot s.blc.state = false := by rw [← hcold, roundWith, applyDecision_blc]
    exact (roundTable_zero _ s).1 (boilerDemand_of_not_hot hstate)
  | restartPae => exact fun _ => rfl
  | standby =>
    exact enterStandby_keeps (p := BoilerGrantLaw) (fun _ h => h) (fun b h s hs => hs.congr (.of_bay (changeHolds_frame b h s)))
      (fun _ => toBoiler_boilerGrantLaw .cold) (fun _ h => h) hs
  | sleep => exact fun _ => by rw [(enterSleep_boiler s).2.2.2.2]; rfl
  | @front b u _ _ _ =>
    have hsense : BoilerGrantLaw { s with snu := u } := hs
    exact hsense.congr (.of_bay ((reholdFront_frame b _).trans (driveValve_frame b _)))
  | @tankFull u _ _ =>
    have hsense : BoilerGrantLaw { s with snu := u } := hs
    exact hsense.congr (forceCompressorOff_boilerSame _)
  | @temperature b new u _ _ _ =>
    have hsense : BoilerGrantLaw { s with snu := u } := hs
    exact hsense.congr (temperatureTaken_boilerSame b _ new _)
  | reset => exact fun _ => rfl
  | queue | link | events | presence | budget | mode | roundTimer | untaken | store | wake | senses | tick => exact hs

/-! ### Where the boiler rests (R106, R108) -/

theorem BoilerRestLaw.congr {s t : State} (h : BoilerRestLaw s) (k : BoilerSame s t)
    (hphase : t.moc.phase = s.moc.phase) : BoilerRestLaw t := by
  simpa only [BoilerRestLaw, k.state, k.cause, hphase] using h

theorem coolBoiler_boilerRestLaw {s : State} (h : s.blc.state = .locked ↔ s.blc.cause ≠ .none) :
    BoilerRestLaw (coolBoiler s) := by
  unfold coolBoiler
  split
  next hlocked => exact ⟨fun _ => .inr hlocked, h⟩
  next hlocked =>
    refine ⟨fun _ => .inl (toBoiler_state .cold s), ?_⟩
    rw [toBoiler_state, toBoiler_cause]
    exact ⟨fun hcold => (nomatch hcold), fun hcause => absurd (h.mpr hcause) hlocked⟩

theorem Move.boilerRestLaw {s t : State} (h : Move s t) (hs : BoilerRestLaw s) : BoilerRestLaw t := by
  cases h with
  | bay b hb => exact hs.congr (.of_bay hb.frame) (by rw [hb.frame.moc])
  | mode hm =>
    refine ⟨fun hrun => hs.1 fun hphase => ?_, hs.2⟩
    rcases hm with hm | hm | ⟨hset, -⟩
    · exact hrun (hm.trans hphase)
    · exact hrun hm
    · rw [hphase] at hset
      cases hset
  | boilerParts hstate hcause =>
    refine ⟨fun hrun => ?_, ?_⟩
    · have := hs.1 hrun
      rwa [← hstate] at this
    · have := hs.2
      rwa [← hstate, ← hcause] at this
  | @boiler next hnext hnow hrun =>
    have hphase := (toBoiler_plantFrame next s).moc
    refine ⟨fun hne => ?_, ?_⟩
    · rw [hphase] at hne
      rw [toBoiler_state]
      rcases hrun with hrun | hrun | hrun
      · exact .inl hrun
      · exact absurd hrun hne
      · exact ((hs.1 hne).elim hrun hnow).elim
    · rw [toBoiler_state, toBoiler_cause]
      exact ⟨fun h => absurd h hnext, fun h => absurd (hs.2.mpr h) hnow⟩
  | @lock cause hcause =>
    unfold lockBoiler
    split
    · exact hs
    · refine ⟨fun _ => .inr (toBoiler_state .locked _), ?_⟩
      rw [toBoiler_state, toBoiler_cause]
      exact ⟨fun _ => hcause, fun _ => rfl⟩
  | unlock =>
    refine ⟨fun _ => .inl (toBoiler_state .cold _), ?_⟩
    rw [boilerUnlocked, toBoiler_state, toBoiler_cause]
    exact ⟨fun h => (nomatch h), fun h => absurd rfl h⟩
  | round =>
    have hround := allotmentRound_of_decision (s := s) rfl
    rw [hround]
    generalize decideCompressor _ s = d
    cases d <;> exact hs
  | standby =>
    have hheld := standbyHeld_boilerSame s
    have hcool := coolBoiler_boilerRestLaw (by rw [hheld.state, hheld.cause]; exact hs.2)
    exact hcool.congr (forceCompressorOff_boilerSame _) (congrArg Moc.phase (forceCompressorOff_plantFrame _).moc)
  | sleep hphase =>
    obtain ⟨hstate, hcause, -⟩ := enterSleep_boiler s
    refine ⟨fun _ => ?_, ?_⟩
    · rw [hstate]
      exact hs.1 (by simp [hphase])
    · rw [hstate, hcause]
      exact hs.2
  | wake hphase => exact ⟨fun _ => hs.1 (by simp [hphase]), hs.2⟩
  | @front b u _ _ _ =>
    have hsense : BoilerRestLaw { s with snu := u } := hs
    have hframe := (reholdFront_frame b { s with snu := u }).trans (driveValve_frame b _)
    exact hsense.congr (.of_bay hframe) (by rw [hframe.moc])
  | @tankFull u _ _ =>
    have hsense : BoilerRestLaw { s with snu := u } := hs
    exact hsense.congr (forceCompressorOff_boilerSame _) (by rw [(forceCompressorOff_plantFrame _).moc])
  | @temperature b new u _ _ _ =>
    have hsense : BoilerRestLaw { s with snu := u } := hs
    exact hsense.congr (temperatureTaken_boilerSame b _ new _) (by rw [(temperatureTaken_kept b _ new _).moc])
  | reset => exact ⟨fun _ => .inl rfl, ⟨fun h => (nomatch h), fun h => absurd rfl h⟩⟩
  | tick =>
    have hphase : (tickMoc s.moc).phase = s.moc.phase := by
      unfold tickMoc
      split <;> rfl
    exact hs.congr (by constructor <;> rfl) hphase
  | queue | link | events | presence | budget | roundTimer | untaken | store | restartPae | senses => exact hs

end Sys2Proof.Machine
end

section
/-! What a bay's move does to the valve and the heater of the bay (R94, R115, R122): it drives them anew, or leaves the
running step as it is. -/

namespace Sys2Proof.Machine

/-! ### Driven anew -/

/-- The bay's valve stands as R115 has it, and its heater demand is that of R89. -/
structure Driven (b : Bay) (s : State) : Prop where
  valve : s.blc.valves.get b = valveOpen b s
  demand : (s.alc.bays.get b).demand = auxDemand b s

theorem driveBay_driven (b : Bay) (s : State) : Driven b (driveBay b s) where
  valve := by
    change (s.blc.valves.set b _).get b = _
    rw [PerBay.get_set_same]
    rfl
  demand := by
    rw [driveBay_outputs]
    rfl

/-- Valve and demand of the bay are as they were, for the running step that they were for. -/
structure DriveSame (b : Bay) (s t : State) : Prop where
  copy : runningCopy (t.bsq.get b) = runningCopy (s.bsq.get b)
  valve : t.blc.valves.get b = s.blc.valves.get b
  demand : (t.alc.bays.get b).demand = (s.alc.bays.get b).demand

theorem DriveSame.refl (b : Bay) (s : State) : DriveSame b s s := ⟨rfl, rfl, rfl⟩

theorem runningCopy_congr {q p : Bsq} (hstate : p.state = q.state) (hx : p.context = q.context) :
    runningCopy p = runningCopy q := by
  simp only [runningCopy, currentCopy, hstate, hx]

/-- The running copy of a bay is that of the same step. -/
theorem runningCopy_same {q p : Bsq} {x y : Context} (hstate : p.state = q.state) (hx : q.context = some x)
    (hy : p.context = some y) (hsame : SameStep x y) : runningCopy p = runningCopy q := by
  simp only [runningCopy, currentCopy, contextCopy, hstate, hx, hy, Option.bind_some, hsame.copies, hsame.index]

theorem runningCopy_of_state {q : Bsq} (h : q.state ≠ .running) : runningCopy q = none := by simp [runningCopy, h]

section
variable {b : Bay} {s : State}

theorem changeHolds_drives (h : HoldSet) : Driven b (changeHolds b h s) ∨ DriveSame b s (changeHolds b h s) := by
  have hform := changeHolds_form b h s
  generalize changeHolds b h s = t at hform ⊢
  cases hform with
  | same => exact .inr (.refl b s)
  | kept => exact .inr ⟨runningCopy_congr (by simp) (by simp), by simp, by simp⟩
  | held => exact .inl (driveBay_driven b _)
  | released => exact .inl (driveBay_driven b _)

theorem startStep_drives : Driven b (startStep b s) ∨ startStep b s = s := by
  have hform := startStep_form b s
  generalize startStep b s = t at hform ⊢
  cases hform with
  | none => exact .inr rfl
  | starts => exact .inl (driveBay_driven b _)

theorem enterStep_driven {x : Context} {index : Nat} (hx : (s.bsq.get b).context = some x)
    (hcopy : contextCopy (enteredContext index x) ≠ none) : Driven b (enterStep b index s) := by
  have hform := enterStep_form b index s
  generalize enterStep b index s = t at hform ⊢
  cases hform with
  | none hnone => rw [hx] at hnone; cases hnone
  | waits => exact driveBay_driven b _
  | starts hy hw =>
    obtain rfl : x = _ := Option.some.inj (hx.symm.trans hy)
    have hform := startStep_form b (stepEntered b index x s)
    generalize startStep b (stepEntered b index x s) = t at hform ⊢
    cases hform with
    | none hc => exact absurd (by simpa [currentCopy] using hc) hcopy
    | starts => exact driveBay_driven b _

/-- A bay's move drives the bay anew or leaves what it drives; a warm restart leaves the valve of a bay that does not run a
step, and forms the demand anew. -/
theorem BayMove.drives {t : State} (h : BayMove b s t) (hs : CopiesLaw (s.bsq.get b)) :
    Driven b t ∨ DriveSame b s t ∨
      (t = restartBay b s ∧ inProgress (s.bsq.get b) = false) := by
  cases h with
  | holds h => exact (changeHolds_drives h).imp id .inl
  | count hx hy => exact .inr (.inl ⟨runningCopy_same (by simp [setContext]) hx (by simp [setContext]) hy, rfl, rfl⟩)
  | start =>
    rcases startStep_drives (b := b) (s := s) with h | h
    · exact .inl h
    · rw [h]
      exact .inr (.inl (.refl b s))
  | @givesWay _ x result hc hx hf =>
    obtain ⟨hlen, -⟩ := hs x hx
    refine .inl (enterStep_driven (x := x) ?_ (contextCopy_ne_none hlen (isFinalStep_eq_false.mp hf)))
    rw [removeStep_bsq, stepNotified_bsq, withdrawAux_bsq]
    exact hx
  | ends => exact .inl (driveBay_driven b _)
  | reject =>
    refine .inr (.inl ⟨runningCopy_congr ?_ ?_, ?_, ?_⟩)
    · rw [rejectProgram, removeHead_bsq, postOutcome_bsq]
    · rw [rejectProgram, removeHead_bsq, postOutcome_bsq]
    · rw [rejectProgram, removeHead_blc, postOutcome_blc]
    · rw [rejectProgram, removeHead_alc, postOutcome_alc]
  | @accept program ha hp hf =>
    obtain ⟨x, hx, hcopies, hcount⟩ := programAdmitted_context b program s
    exact .inl (enterStep_driven hx (firstCopy_ne_none hf (headProgram_length hp).1 hcopies hcount))
  | park result =>
    unfold enterParking
    split
    · exact .inl (driveBay_driven b _)
    · exact .inr (.inl (.refl b s))
  | parkEnds => exact .inl (driveBay_driven b _)
  | clear => exact .inl (driveBay_driven b _)
  | cancel =>
    refine .inr (.inl ⟨runningCopy_congr ?_ ?_, ?_, ?_⟩)
    · rw [postOutcome_bsq]; rfl
    · rw [postOutcome_bsq]; rfl
    · rw [postOutcome_blc]; rfl
    · rw [postOutcome_alc]; rfl
  | outputs hdemand => exact .inr (.inl ⟨rfl, rfl, by simpa using hdemand⟩)
  | heater => exact .inr (.inl ⟨rfl, rfl, by simp [takeHeater]⟩)
  | restart =>
    by_cases hp : inProgress (s.bsq.get b) = true
    · rw [restartBay, if_pos hp]
      exact .inl (driveBay_driven b _)
    · exact .inr (.inr ⟨rfl, Bool.eq_false_iff.mpr hp⟩)
  | parkCount => exact .inr (.inl ⟨runningCopy_congr (by simp) (by simp), rfl, rfl⟩)
  | panel => exact .inr (.inl ⟨runningCopy_congr (by simp) (by simp), by simp, by simp⟩)
  | append | free => exact .inr (.inl ⟨rfl, rfl, rfl⟩)

theorem not_running_of_not_progress {q : Bsq} (h : inProgress q = false) : q.state ≠ .running := fun hs => by
  simp [inProgress, hs] at h

/-- A warm restart leaves no running step. -/
theorem restartBay_runningCopy (hp : inProgress (s.bsq.get b) = false) :
    runningCopy ((restartBay b s).bsq.get b) = none ∧ runningCopy (s.bsq.get b) = none ∧
      (restartBay b s).blc.valves.get b = s.blc.valves.get b ∧
      ((restartBay b s).alc.bays.get b).demand = auxDemand b (restartBay b s) := by
  refine ⟨?_, runningCopy_of_state (not_running_of_not_progress hp), ?_, ?_⟩
  · rw [(restartBay_rings b s).2.2]
    exact runningCopy_of_state (by simp [hp, not_running_of_not_progress hp])
  · simp [restartBay, hp]
  · rw [restartBay, hp]
    simp only [Bool.false_eq_true, if_false]
    rw [formDemand_outputs]
    rfl

/-! ### The valve of a bay (R115) -/

/-- Whether a valve stands open reads the straps, the boiler, the fronts and the running step. -/
theorem valveOpen_congr {t : State} (hfitted : t.fitted = s.fitted) (hstate : t.blc.state = s.blc.state)
    (hfront : (t.snu.fronts.get b).filtered = (s.snu.fronts.get b).filtered)
    (hcopy : runningCopy (t.bsq.get b) = runningCopy (s.bsq.get b)) : valveOpen b t = valveOpen b s := by
  simp only [valveOpen, hfitted, hstate, hfront, hcopy]

theorem valveOpen_of_not_ready (h : s.blc.state ≠ .ready) : valveOpen b s = false := by simp [valveOpen, h]

/-- The valve of a bay stands as R115 has it. -/
def BayValve (b : Bay) (s : State) : Prop := s.blc.valves.get b = valveOpen b s

theorem BayMove.bayValve {t : State} (h : BayMove b s t) (hcopies : CopiesLaw (s.bsq.get b)) (hs : BayValve b s) :
    BayValve b t := by
  have hframe := h.frame
  have hopen (hcopy : runningCopy (t.bsq.get b) = runningCopy (s.bsq.get b)) : valveOpen b t = valveOpen b s :=
    valveOpen_congr hframe.fitted (by rw [hframe.blc]) (by rw [hframe.snu]) hcopy
  rcases h.drives hcopies with h | h | ⟨h, hp⟩
  · exact h.valve
  · exact h.valve.trans (hs.trans (hopen h.copy).symm)
  · obtain ⟨hafter, hbefore, hvalve, -⟩ := restartBay_runningCopy hp
    rw [← h] at hafter hvalve
    exact hvalve.trans (hs.trans (hopen (hafter.trans hbefore.symm)).symm)

end

theorem BayMove.valveLaw {b : Bay} {s t : State} (h : BayMove b s t) (hcopies : CopiesLaw (s.bsq.get b))
    (hs : ValveLaw s) : ValveLaw t := by
  intro c
  by_cases hc : c = b
  · subst hc
    exact h.bayValve hcopies (hs c)
  · have hframe := h.frame
    rw [hframe.valves c hc, hs c]
    exact (valveOpen_congr hframe.fitted (by rw [hframe.blc]) (by rw [hframe.snu]) (by rw [hframe.bsq c hc])).symm

/-! ### The valves of the plant -/

/-- Every valve driven anew stands as R115 has it. -/
theorem driveValves_law (s : State) : ValveLaw (forBays driveValve s) := by
  intro b
  cases b <;> rfl

/-- The law of the valves with the law of the copies (R14, R115). -/
def ValvesAndCopies (s : State) : Prop := ValveLaw s ∧ EachBay (fun q _ _ => CopiesLaw q) s

theorem BayMove.valvesAndCopies {b : Bay} {s t : State} (h : BayMove b s t) (hs : ValvesAndCopies s) :
    ValvesAndCopies t := ⟨h.valveLaw (hs.2 b) hs.1, hs.2.move copies_kept h⟩

theorem changeHolds_valvesAndCopies (b : Bay) (h : HoldSet) (s : State) (hs : ValvesAndCopies s) :
    ValvesAndCopies (changeHolds b h s) := (BayMove.holds h).valvesAndCopies hs

/-- The law of the valves across an event that leaves what it reads. -/
theorem ValveLaw.congr {s t : State} (h : ValveLaw s) (hfitted : t.fitted = s.fitted)
    (hstate : t.blc.state = s.blc.state) (hvalves : t.blc.valves = s.blc.valves)
    (hfronts : ∀ b, (t.snu.fronts.get b).filtered = (s.snu.fronts.get b).filtered)
    (hcopies : ∀ b, runningCopy (t.bsq.get b) = runningCopy (s.bsq.get b)) : ValveLaw t := fun b => by
  rw [hvalves, h b, valveOpen_congr hfitted hstate (hfronts b) (hcopies b)]

theorem ValveLaw.of_shut {s : State} (hstate : s.blc.state ≠ .ready) (hvalves : ∀ b, s.blc.valves.get b = false) :
    ValveLaw s := fun b => by rw [hvalves b, valveOpen_of_not_ready hstate]

theorem toBoiler_valveLaw (next : BoilerState) {s : State} (hs : ValveLaw s) : ValveLaw (toBoiler next s) := by
  by_cases h : s.blc.state = next
  · rw [toBoiler, if_pos h]
    exact hs
  · rw [toBoiler_of_ne h]
    exact driveValves_law _

theorem toBoiler_valvesAndCopies (next : BoilerState) {s : State} (hs : ValvesAndCopies s) :
    ValvesAndCopies (toBoiler next s) := ⟨toBoiler_valveLaw next hs.1, hs.2.boiler copies_kept next⟩

theorem forceCompressorOff_valvesAndCopies {s : State} (hs : ValvesAndCopies s) :
    ValvesAndCopies (forceCompressorOff s) :=
  forceCompressorOff_keeps (p := ValvesAndCopies) changeHolds_valvesAndCopies (fun _ h => h) hs

theorem enterStandby_valvesAndCopies {s : State} (hs : ValvesAndCopies s) : ValvesAndCopies (enterStandby s) :=
  enterStandby_keeps (p := ValvesAndCopies) (fun _ h => h) changeHolds_valvesAndCopies
    (fun _ => toBoiler_valvesAndCopies .cold) (fun _ h => h) hs

theorem temperatureTaken_valveLaw (b : Bay) (old new : Channel) {s : State} (hs : ValvesAndCopies s) :
    ValveLaw (temperatureTaken b old new s) := by
  have hfault := (channelFault_keeps (p := ValvesAndCopies) (fun _ h => h) (fun hb h => hb.valvesAndCopies h)
    b old new hs).1
  unfold temperatureTaken
  dsimp only
  split
  · exact hfault.congr rfl rfl rfl (fun _ => rfl) fun _ => rfl
  · exact hfault

/-- A change of the front of a bay: its valve is driven anew, and no other reads it (R47, R115). -/
theorem frontMoved_valveLaw (b : Bay) {s : State} {u : Snu} (hfronts : ∀ c, c ≠ b → u.fronts.get c = s.snu.fronts.get c)
    (hs : ValveLaw s) : ValveLaw (driveValve b (reholdFront b { s with snu := u })) := by
  intro c
  have hframe := (reholdFront_frame b { s with snu := u }).trans (driveValve_frame b _)
  by_cases hc : c = b
  · subst hc
    change ((reholdFront c { s with snu := u }).blc.valves.set c _).get c = _
    rw [PerBay.get_set_same]
    rfl
  · have hvalve := hframe.valves c hc
    have hopen : valveOpen c (driveValve b (reholdFront b { s with snu := u })) = valveOpen c s :=
      valveOpen_congr hframe.fitted (by rw [hframe.blc]) (by rw [hframe.snu]; rw [← hfronts c hc])
        (by rw [hframe.bsq c hc])
    rw [hopen, ← hs c]
    exact hvalve

theorem tick_runningCopy (b : Bay) (s : State) :
    runningCopy ((tick s).bsq.get b) = runningCopy (s.bsq.get b) := by
  change runningCopy ((s.bsq.map tickBay).get b) = _
  rw [PerBay.get_map]
  obtain ⟨hstate, -⟩ := tickBay_state (s.bsq.get b)
  cases hx : (s.bsq.get b).context with
  | none => exact runningCopy_congr hstate (by rw [tickBay_none hx, hx])
  | some x =>
    obtain ⟨y, hy, hsame⟩ := tickBay_some hx
    exact runningCopy_same hstate hx hy hsame

theorem tickSnu_inputs (s : State) : (tickSnu s).fronts = s.snu.fronts ∧ (tickSnu s).temps = s.snu.temps := by
  unfold tickSnu
  split <;> exact ⟨rfl, rfl⟩

theorem Move.valveLaw {s t : State} (h : Move s t) (hrest : BoilerRestLaw s) (hs : ValvesAndCopies s) : ValveLaw t := by
  cases h with
  | bay b hb => exact (hb.valvesAndCopies hs).1
  | boilerParts hstate _ hvalves => exact hs.1.congr rfl hstate hvalves (fun _ => rfl) fun _ => rfl
  | boiler => exact toBoiler_valveLaw _ hs.1
  | lock => exact lockBoiler_keeps hs.1 (toBoiler_valveLaw .locked hs.1)
  | unlock => exact toBoiler_valveLaw .cold hs.1
  | round =>
    have hround := allotmentRound_of_decision (s := s) rfl
    rw [hround]
    generalize decideCompressor _ s = d
    cases d <;> exact hs.1
  | standby => exact (enterStandby_valvesAndCopies hs).1
  | sleep hphase =>
    obtain ⟨hstate, -, -, hvalves, -⟩ := enterSleep_boiler s
    refine .of_shut ?_ fun b => by rw [hvalves, PerBay.get_fill]
    rw [hstate]
    rcases hrest.1 (by simp [hphase]) with h | h <;> simp [h]
  | wake hphase =>
    have hcold : s.blc.state ≠ .ready := by rcases hrest.1 (by simp [hphase]) with h | h <;> simp [h]
    exact .of_shut hcold fun b => (hs.1 b).trans (valveOpen_of_not_ready hcold)
  | senses hfronts => exact hs.1.congr rfl rfl rfl hfronts fun _ => rfl
  | front b hfronts => exact frontMoved_valveLaw b hfronts hs.1
  | @tankFull u hfronts _ =>
    have hsense : ValveLaw { s with snu := u } := hs.1.congr rfl rfl rfl (fun b => by rw [← hfronts]) fun _ => rfl
    exact (forceCompressorOff_valvesAndCopies ⟨hsense, hs.2⟩).1
  | @temperature b new u hfronts _ _ =>
    have hsense : ValveLaw { s with snu := u } := hs.1.congr rfl rfl rfl (fun b => by rw [← hfronts]) fun _ => rfl
    exact temperatureTaken_valveLaw b _ new ⟨hsense, hs.2⟩
  | reset =>
    refine .of_shut (fun h => ?_) fun b => ?_
    · cases h
    · cases b <;> rfl
  | tick =>
    exact hs.1.congr rfl rfl rfl (fun b => by
      change ((tickSnu s).fronts.get b).filtered = _
      rw [(tickSnu_inputs s).1]) fun b => tick_runningCopy b s
  | restartPae => exact hs.1.congr rfl rfl rfl (fun _ => rfl) fun _ => rfl
  | queue | link | events | presence | budget | mode | roundTimer | untaken | store => exact hs.1

end Sys2Proof.Machine
end

section
/-! The bays asleep and their heaters (R94, R122, R123, R181, R185, R186). -/

namespace Sys2Proof.Machine

/-! ### A heater that must be off -/

/-- The bay has neither a heater grant nor a heater drive. -/
def HeatOff (b : Bay) (s : State) : Prop := s.pae.grants.aux.get b = 0 ∧ (s.alc.bays.get b).drive = 0

/-- The bay is not RUNNING, or its temperature channel not VALID, or at the step's limit (R94). -/
def MustBeOff (b : Bay) (s : State) : Prop :=
  (s.bsq.get b).state ≠ .running ∨ (s.snu.temps.get b).state ≠ .valid ∨ atLimit b (s.snu.temps.get b) s = true

theorem heaterLaw_iff (s : State) :
    HeaterLaw s ↔ ∀ b, (s.alc.bays.get b).demand = auxDemand b s ∧ (MustBeOff b s → HeatOff b s) := Iff.rfl

theorem HeatOff.congr {b : Bay} {s t : State} (h : HeatOff b s) (haux : t.pae.grants.aux.get b = s.pae.grants.aux.get b)
    (hdrive : (t.alc.bays.get b).drive = (s.alc.bays.get b).drive) : HeatOff b t :=
  ⟨haux.trans h.1, hdrive.trans h.2⟩

theorem MustBeOff.congr {b : Bay} {s t : State} (h : MustBeOff b t) (hstate : t.bsq.get b = s.bsq.get b ∨
    ((t.bsq.get b).state = (s.bsq.get b).state ∧ runningCopy (t.bsq.get b) = runningCopy (s.bsq.get b)))
    (htemp : t.snu.temps.get b = s.snu.temps.get b) : MustBeOff b s := by
  have hparts : (t.bsq.get b).state = (s.bsq.get b).state ∧ runningCopy (t.bsq.get b) = runningCopy (s.bsq.get b) := by
    rcases hstate with h | h
    · rw [h]; exact ⟨rfl, rfl⟩
    · exact h
  simpa only [MustBeOff, atLimit, hparts.1, hparts.2, htemp] using h

/-- The heater demand reads the running step and the temperature. -/
theorem auxDemand_congr {b : Bay} {s t : State} (hcopy : runningCopy (t.bsq.get b) = runningCopy (s.bsq.get b))
    (htemp : t.snu.temps.get b = s.snu.temps.get b) : auxDemand b t = auxDemand b s := by
  simp only [auxDemand, hcopy, htemp]

/-- A heater that must be off has no demand (R89). -/
theorem auxDemand_of_mustBeOff {b : Bay} {s : State} (h : MustBeOff b s) : auxDemand b s = 0 := by
  unfold auxDemand
  split
  next c hc =>
    split
    next hkind =>
      split
      next limit t hlimit ht =>
        have hlast : validValue (s.snu.temps.get b) = some t := by simp [validValue, hkind.2, ht]
        rcases h with h | h | h
        · exact absurd (runningCopy_running hc) h
        · exact absurd hkind.2 h
        · simp only [atLimit, hc, hlast, hlimit, decide_eq_true_eq] at h
          simp [Nat.sub_eq_zero_of_le h]
      next => rfl
    next => rfl
  next => rfl

section
variable {b : Bay} {s : State}

theorem withdrawAux_heatOff (b : Bay) (s : State) : HeatOff b (withdrawAux b s) :=
  ⟨by simp [withdrawAux], by rw [withdrawAux_outputs]⟩

theorem driveBay_heatOff (h : HeatOff b s) : HeatOff b (driveBay b s) :=
  h.congr (by rw [driveBay_pae]) (by rw [driveBay_outputs])

theorem HeatOff.frame {t : State} (h : HeatOff b s) (hpae : t.pae = s.pae) (halc : t.alc = s.alc) : HeatOff b t :=
  h.congr (by rw [hpae]) (by rw [halc])

theorem startStep_heatOff (h : HeatOff b s) : HeatOff b (startStep b s) := by
  have hform := startStep_form b s
  generalize startStep b s = t at hform ⊢
  cases hform with
  | none => exact h
  | starts => exact driveBay_heatOff (h.frame (by simp) (by simp))

theorem enterStep_heatOff (index : Nat) (h : HeatOff b s) : HeatOff b (enterStep b index s) := by
  have hform := enterStep_form b index s
  generalize enterStep b index s = t at hform ⊢
  cases hform with
  | none => exact h
  | waits => exact driveBay_heatOff (h.frame (by simp) (by simp))
  | starts => exact startStep_heatOff (h.frame (by simp) (by simp))

theorem stepGivesWay_heatOff (result : Result) (x : Context) : HeatOff b (stepGivesWay b result x s) := by
  refine enterStep_heatOff _ ((withdrawAux_heatOff b s).frame ?_ ?_)
  · rw [removeStep_pae, stepNotified_pae]
  · rw [removeStep_alc, stepNotified_alc]

theorem programEnded_heatOff (result : Result) (x : Context) : HeatOff b (programEnded b result x s) := by
  refine driveBay_heatOff ((withdrawAux_heatOff b s).frame ?_ ?_)
  · simp only [raisePanel_pae, setBsq_pae, removeStep_pae, postOutcome_pae]
  · simp only [raisePanel_alc, setBsq_alc, removeStep_alc, postOutcome_alc]

theorem restartBay_heatOff : HeatOff b (restartBay b s) := by
  unfold restartBay
  dsimp only
  split
  · exact driveBay_heatOff (withdrawAux_heatOff b _)
  · exact (withdrawAux_heatOff b _).congr rfl (by rw [formDemand_outputs])

/-! ### The moves of a bay -/

/-- A bay's move turns no heater on. -/
theorem BayMove.heatOff {t : State} (h : BayMove b s t) (hs : HeatOff b s) : HeatOff b t := by
  cases h with
  | holds h =>
    have hform := changeHolds_form b h s
    generalize changeHolds b h s = t at hform ⊢
    cases hform with
    | same => exact hs
    | kept => exact hs.frame (by simp) (by simp)
    | held => exact driveBay_heatOff (withdrawAux_heatOff b _)
    | released => exact driveBay_heatOff (hs.frame (by simp) (by simp))
  | start => exact startStep_heatOff hs
  | givesWay => exact stepGivesWay_heatOff _ _
  | ends => exact programEnded_heatOff _ _
  | reject => exact hs.frame (postOutcome_pae b _ _ s) (postOutcome_alc b _ _ s)
  | accept => exact enterStep_heatOff 0 hs
  | park result =>
    unfold enterParking
    split
    · exact driveBay_heatOff (withdrawAux_heatOff b _)
    · exact hs
  | parkEnds => exact driveBay_heatOff (hs.frame (by simp [closeProgram_pae]) (by simp [closeProgram_alc]))
  | clear => exact driveBay_heatOff (hs.frame (by simp) (by simp))
  | cancel => exact hs.frame (postOutcome_pae b _ _ _) (postOutcome_alc b _ _ _)
  | outputs _ hdrive => exact hs.congr rfl (by simpa using hdrive)
  | heater =>
    refine hs.congr rfl ?_
    simp only [takeHeater, setOutputs_bays, PerBay.get_set_same]
    split
    · exact hs.1.trans hs.2.symm
    · rfl
  | restart => exact restartBay_heatOff
  | panel => exact hs.frame (by simp) (by simp)
  | count | parkCount | append | free => exact hs

/-- Where a bay's move brings the bay to have its heater off, it is withdrawn. -/
theorem BayMove.mustBeOff {t : State} (h : BayMove b s t) (hoff : MustBeOff b t) : MustBeOff b s ∨ HeatOff b t := by
  have htemp : t.snu.temps.get b = s.snu.temps.get b := by rw [h.frame.snu]
  cases h with
  | holds h =>
    have hform := changeHolds_form b h s
    generalize changeHolds b h s = t at hform hoff htemp ⊢
    cases hform with
    | same => exact .inl hoff
    | kept => exact .inl (hoff.congr (.inr ⟨by simp, runningCopy_congr (by simp) (by simp)⟩) htemp)
    | held => exact .inr (driveBay_heatOff (withdrawAux_heatOff b _))
    | released _ hheld => exact .inl (.inl (by simp [hheld]))
  | count hx hy =>
    exact .inl (hoff.congr (.inr ⟨by simp [setContext],
      runningCopy_same (by simp [setContext]) hx (by simp [setContext]) hy⟩) htemp)
  | start hwaiting => exact .inl (.inl (by simp [hwaiting]))
  | givesWay => exact .inr (stepGivesWay_heatOff _ _)
  | ends => exact .inr (programEnded_heatOff _ _)
  | reject _ _ _ ha => exact .inl (.inl (by simp [(admissible_idle ha).1]))
  | accept ha => exact .inl (.inl (by simp [(admissible_idle ha).1]))
  | park result =>
    unfold enterParking at hoff ⊢
    split
    · exact .inr (driveBay_heatOff (withdrawAux_heatOff b _))
    next hp => exact .inl (.inl (not_running_of_not_progress (Bool.eq_false_iff.mpr hp)))
  | parkCount _ _ _ hpark => exact .inl (.inl (by simp [hpark]))
  | parkEnds hpark => exact .inl (.inl (by simp [hpark]))
  | clear hfaulted => exact .inl (.inl (by simp [hfaulted]))
  | cancel => exact .inl (hoff.congr (.inl (by rw [postOutcome_bsq]; rfl)) htemp)
  | panel => exact .inl (hoff.congr (.inl (by simp)) htemp)
  | restart => exact .inr restartBay_heatOff
  | append | free | outputs | heater => exact .inl (hoff.congr (.inl rfl) htemp)

theorem BayMove.demand {t : State} (h : BayMove b s t) (hcopies : CopiesLaw (s.bsq.get b))
    (hs : (s.alc.bays.get b).demand = auxDemand b s) : (t.alc.bays.get b).demand = auxDemand b t := by
  have htemp : t.snu.temps.get b = s.snu.temps.get b := by rw [h.frame.snu]
  rcases h.drives hcopies with h | h | ⟨rfl, hp⟩
  · exact h.demand
  · exact h.demand.trans (hs.trans (auxDemand_congr h.copy htemp).symm)
  · exact (restartBay_runningCopy hp).2.2.2

/-! ### No program in progress (R181, R185, R186) -/

/-- Where rounds and admission rest, a bay's move starts no program. -/
theorem BayMove.notInProgress {t : State} (h : BayMove b s t) (hphase : s.moc.phase ≠ .run)
    (hs : inProgress (s.bsq.get b) = false) : inProgress (t.bsq.get b) = false := by
  have hrun := not_running_of_not_progress hs
  cases h with
  | holds h =>
    have hform := changeHolds_form b h s
    generalize changeHolds b h s = t at hform ⊢
    cases hform with
    | same => exact hs
    | kept => simpa [inProgress] using hs
    | held _ hstate => exact absurd hstate hrun
    | released _ hstate => simp [inProgress, hstate] at hs
  | count => simpa [inProgress, setContext] using hs
  | start hwaiting => simp [inProgress, hwaiting] at hs
  | givesWay _ hc => exact absurd (runningCopy_running hc) hrun
  | ends _ hc => exact absurd (runningCopy_running hc) hrun
  | reject => rw [rejectProgram, removeHead_bsq, postOutcome_bsq]; exact hs
  | accept ha => simp [admissible, hphase] at ha
  | park result => rwa [enterParking_else b result s hs]
  | parkCount => simpa [inProgress] using hs
  | parkEnds =>
    simp only [parkEnded, driveBay_bsq, raisePanel_bsq, setBsq_bsq, PerBay.get_set_same]
    split <;> rfl
  | clear => simp [inProgress]
  | cancel => rw [postOutcome_bsq]; exact hs
  | panel => simpa using hs
  | restart =>
    simp only [(restartBay_rings b s).2.2, hs, Bool.false_eq_true, if_false]
    exact hs
  | append | free | outputs | heater => exact hs

end

/-! ### The laws together -/

/-- What the heater law goes with (R14, R39). -/
structure HeatSafe (s : State) : Prop where
  heater : HeaterLaw s
  copies : EachBay (fun q _ _ => CopiesLaw q) s

theorem BayMove.heatSafe {b : Bay} {s t : State} (h : BayMove b s t) (hs : HeatSafe s) : HeatSafe t := by
  refine ⟨fun c => ?_, hs.copies.move copies_kept h⟩
  have hframe := h.frame
  by_cases hc : c = b
  · subst hc
    refine ⟨h.demand (hs.copies c) (hs.heater c).1, fun hoff => ?_⟩
    exact (h.mustBeOff hoff).elim (fun hbefore => h.heatOff ((hs.heater c).2 hbefore)) id
  · have htemp : t.snu.temps.get c = s.snu.temps.get c := by rw [hframe.snu]
    have hbsq := hframe.bsq c hc
    refine ⟨?_, fun hoff => ?_⟩
    · rw [hframe.outputs c hc, (hs.heater c).1]
      exact (auxDemand_congr (by rw [hbsq]) htemp).symm
    · exact HeatOff.congr ((hs.heater c).2 (MustBeOff.congr hoff (.inl hbsq) htemp)) (hframe.aux c hc)
        (by rw [hframe.outputs c hc])

/-- The heater law across an event that leaves what it reads. -/
theorem HeatSafe.congr {s t : State} (h : HeatSafe s) (hbsq : t.bsq = s.bsq) (htemps : t.snu.temps = s.snu.temps)
    (haux : t.pae.grants.aux = s.pae.grants.aux) (halc : t.alc.bays = s.alc.bays) : HeatSafe t := by
  refine ⟨fun b => ?_, fun b => by rw [hbsq]; exact h.copies b⟩
  obtain ⟨hdemand, hoff⟩ := h.heater b
  refine ⟨?_, fun hb => ?_⟩
  · rw [halc, hdemand]
    exact (auxDemand_congr (by rw [hbsq]) (by rw [htemps])).symm
  · exact HeatOff.congr (hoff (MustBeOff.congr hb (.inl (by rw [hbsq])) (by rw [htemps]))) (by rw [haux]) (by rw [halc])

theorem changeHolds_heatSafe (b : Bay) (h : HoldSet) (s : State) (hs : HeatSafe s) : HeatSafe (changeHolds b h s) :=
  (BayMove.holds h).heatSafe hs

theorem boilerMoved_heatSafe (next : BoilerState) (s : State) (hs : HeatSafe s) : HeatSafe (boilerMoved next s) := by
  refine hs.congr (boilerMoved_bsq next s) ?_ ?_ (by rw [boilerMoved_alc])
  · unfold boilerMoved
    dsimp only
    split <;> rfl
  · unfold boilerMoved
    dsimp only
    split <;> rfl

theorem toBoiler_heatSafe (next : BoilerState) (s : State) (hs : HeatSafe s) : HeatSafe (toBoiler next s) :=
  toBoiler_keeps (p := HeatSafe) boilerMoved_heatSafe changeHolds_heatSafe (fun _ _ h => h.congr rfl rfl rfl rfl) next hs

theorem forceCompressorOff_heatSafe {s : State} (hs : HeatSafe s) : HeatSafe (forceCompressorOff s) :=
  forceCompressorOff_keeps (p := HeatSafe) changeHolds_heatSafe (fun _ h => h.congr rfl rfl rfl rfl) hs

theorem enterStandby_heatSafe {s : State} (hs : HeatSafe s) : HeatSafe (enterStandby s) :=
  enterStandby_keeps (p := HeatSafe) (fun _ h => h.congr rfl rfl rfl rfl) changeHolds_heatSafe (toBoiler_heatSafe .cold)
    (fun _ h => h.congr rfl rfl rfl rfl) hs

/-- A fault of a bay channel leaves the heater off, or what it depends on as it was (R67). -/
theorem channelFault_heater (b : Bay) (old new : Channel) (s : State) :
    HeatOff b (channelFault b old new s) ∨
      ((channelFault b old new s).bsq.get b).state = (s.bsq.get b).state ∧ (channelFault b old new s).pae = s.pae ∧
        (channelFault b old new s).alc = s.alc := by
  unfold channelFault
  split
  · unfold baySensorFault
    split
    next h => exact .inr ⟨by simp, rfl, rfl⟩
    next =>
      unfold enterParking
      split
      · exact .inl (driveBay_heatOff (withdrawAux_heatOff b _))
      · exact .inr ⟨rfl, rfl, rfl⟩
  · exact .inr ⟨rfl, rfl, rfl⟩

/-- Outside bay b a temperature sample of it changes nothing that the heaters depend on. -/
theorem temperatureTaken_other {b c : Bay} (hc : c ≠ b) (old new : Channel) (s : State) :
    (temperatureTaken b old new s).bsq.get c = s.bsq.get c ∧
      (temperatureTaken b old new s).alc.bays.get c = s.alc.bays.get c ∧
      (temperatureTaken b old new s).pae.grants.aux.get c = s.pae.grants.aux.get c := by
  have hfault : (channelFault b old new s).bsq.get c = s.bsq.get c ∧
      (channelFault b old new s).alc.bays.get c = s.alc.bays.get c ∧
      (channelFault b old new s).pae.grants.aux.get c = s.pae.grants.aux.get c := by
    unfold channelFault
    split
    · have hframe := baySensorFault_frame b (raiseSup .sensorFault s)
      exact ⟨hframe.bsq c hc, hframe.outputs c hc, hframe.aux c hc⟩
    · exact ⟨rfl, rfl, rfl⟩
  obtain ⟨hbsq, halc, haux⟩ := hfault
  have hwithdrawn := (withdrawAux_frame b (channelFault b old new s)).trans (formDemand_frame b _)
  have hformed := formDemand_frame b (channelFault b old new s)
  unfold temperatureTaken
  dsimp only
  split
  · exact ⟨(hwithdrawn.bsq c hc).trans hbsq, (hwithdrawn.outputs c hc).trans halc, (hwithdrawn.aux c hc).trans haux⟩
  · exact ⟨(hformed.bsq c hc).trans hbsq, (hformed.outputs c hc).trans halc, (hformed.aux c hc).trans haux⟩

theorem temperatureTaken_bsq (b : Bay) (old new : Channel) (s : State) :
    (temperatureTaken b old new s).bsq = (channelFault b old new s).bsq := by
  unfold temperatureTaken
  dsimp only
  split <;> simp

/-- Where the grant is not withdrawn at a sample, the heater is as the fault of the channel left it. -/
theorem temperatureTaken_heatOff {b : Bay} {old new : Channel} {s : State}
    (h : leavesValid old new = true ∨ atLimit b new (channelFault b old new s) = true ∨
      HeatOff b (channelFault b old new s)) : HeatOff b (temperatureTaken b old new s) := by
  unfold temperatureTaken
  dsimp only
  split
  · exact (withdrawAux_heatOff b _).congr rfl (by rw [formDemand_outputs])
  next hno =>
    rw [Bool.or_eq_true] at hno
    rcases h with h | h | h
    · exact absurd (.inl h) hno
    · exact absurd (.inr h) hno
    · exact h.congr rfl (by rw [formDemand_outputs])

/-- A temperature sample withdraws the grant where the heater must be off from then on, and forms the demand anew (R94,
R122). -/
theorem temperatureTaken_heatSafe (b : Bay) (new : Channel) {s : State} {u : Snu}
    (htemps : u.temps = s.snu.temps.set b new) (hs : HeatSafe s) :
    HeatSafe (temperatureTaken b (s.snu.temps.get b) new { s with snu := u }) := by
  have hsnu : (temperatureTaken b (s.snu.temps.get b) new { s with snu := u }).snu = u :=
    (temperatureTaken_kept b _ new _).snu
  have hcopies : EachBay (fun q _ _ => CopiesLaw q) { s with snu := u } := hs.copies
  refine ⟨fun c => ?_, hcopies.temperature copies_kept b _ new⟩
  by_cases hc : c = b
  · subst hc
    have htemp : u.temps.get c = new := by rw [htemps, PerBay.get_set_same]
    refine ⟨by unfold temperatureTaken; rw [formDemand_outputs]; rfl, fun hoff => temperatureTaken_heatOff ?_⟩
    rw [hsnu, htemp, temperatureTaken_bsq] at hoff
    rcases channelFault_heater c (s.snu.temps.get c) new { s with snu := u } with h | ⟨hstate, hpae, halc⟩
    · exact .inr (.inr h)
    have hbefore (hm : MustBeOff c s) : HeatOff c (channelFault c (s.snu.temps.get c) new { s with snu := u }) :=
      HeatOff.congr ((hs.heater c).2 hm) (by rw [hpae]) (by rw [halc])
    rcases hoff with h | h | h
    · exact .inr (.inr (hbefore (.inl (by rwa [hstate] at h))))
    · by_cases hvalid : (s.snu.temps.get c).state = .valid
      · exact .inl (by simp [leavesValid, hvalid, h])
      · exact .inr (.inr (hbefore (.inr (.inl hvalid))))
    · refine .inr (.inl ?_)
      rwa [atLimit, temperatureTaken_bsq] at h
  · have htemp : u.temps.get c = s.snu.temps.get c := by rw [htemps, PerBay.get_set_other _ _ hc]
    obtain ⟨hbsq, halc, haux⟩ := temperatureTaken_other hc (s.snu.temps.get b) new { s with snu := u }
    have hsame : (temperatureTaken b (s.snu.temps.get b) new { s with snu := u }).snu.temps.get c = s.snu.temps.get c := by
      rw [hsnu, htemp]
    refine ⟨?_, fun hoff => ?_⟩
    · rw [halc]
      exact ((hs.heater c).1).trans (auxDemand_congr (by rw [hbsq]) hsame).symm
    · exact HeatOff.congr ((hs.heater c).2 (MustBeOff.congr hoff (.inl hbsq) hsame)) haux (by rw [halc])

/-! ### Every move -/

/-- No program is in progress, and the part is not in RUN. -/
def AtRest (s : State) : Prop := s.moc.phase ≠ .run ∧ ∀ b, inProgress (s.bsq.get b) = false

theorem AtRest.congr {s t : State} (h : AtRest s) (hphase : t.moc.phase = s.moc.phase) (hbsq : t.bsq = s.bsq) :
    AtRest t := by
  simpa only [AtRest, hphase, hbsq] using h

theorem BayMove.atRest {b : Bay} {s t : State} (h : BayMove b s t) (hs : AtRest s) : AtRest t := by
  have hframe := h.frame
  refine ⟨by rw [hframe.moc]; exact hs.1, fun c => ?_⟩
  by_cases hc : c = b
  · subst hc
    exact h.notInProgress hs.1 (hs.2 c)
  · rw [hframe.bsq c hc]
    exact hs.2 c

theorem changeHolds_atRest (b : Bay) (h : HoldSet) (s : State) (hs : AtRest s) : AtRest (changeHolds b h s) :=
  (BayMove.holds h).atRest hs

theorem boilerMoved_moc (next : BoilerState) (s : State) : (boilerMoved next s).moc = s.moc := by
  unfold boilerMoved
  dsimp only
  split <;> rfl

theorem toBoiler_atRest (next : BoilerState) (s : State) (hs : AtRest s) : AtRest (toBoiler next s) :=
  toBoiler_keeps (p := AtRest) (fun next s h => h.congr (by rw [boilerMoved_moc]) (boilerMoved_bsq next s))
    changeHolds_atRest (fun _ _ h => h.congr rfl rfl) next hs

theorem forceCompressorOff_atRest {s : State} (hs : AtRest s) : AtRest (forceCompressorOff s) :=
  forceCompressorOff_keeps (p := AtRest) changeHolds_atRest (fun _ h => h.congr rfl rfl) hs

/-- The phases in which no program is in progress (R181, R185, R186). -/
def Resting (p : Phase) : Prop := p = .startUp ∨ p = .sleep ∨ p = .settling

theorem Resting.ne_run {p : Phase} (h : Resting p) : p ≠ .run := by
  rcases h with h | h | h <;> simp [h]

/-- A law kept because the mode is as it was and a part at rest stays at rest. -/
theorem AsleepLaw.of_atRest {s t : State} (hs : AsleepLaw s) (hphase : t.moc.phase = s.moc.phase)
    (h : AtRest s → AtRest t) : AsleepLaw t := fun hrest => by
  have hbefore : Resting s.moc.phase := hphase ▸ hrest
  exact (h ⟨hbefore.ne_run, hs hbefore⟩).2

theorem enterStandby_phase (s : State) : (enterStandby s).moc.phase = .standby := by
  have hframe := ((forBays_plantFrame _ reholdStandby_plantFrame { s with moc := { s.moc with phase := .standby } }).trans
    (coolBoiler_plantFrame _)).trans (forceCompressorOff_plantFrame _)
  exact congrArg Moc.phase hframe.moc

theorem maySleep_notInProgress {s : State} (h : maySleep s = true) (b : Bay) : inProgress (s.bsq.get b) = false := by
  simp only [maySleep, Bool.and_eq_true, List.all_eq_true, Bool.or_eq_true, decide_eq_true_eq] at h
  obtain ⟨hbays, -⟩ := h
  have hmem : b ∈ Bay.all := by cases b <;> decide
  rcases (hbays b hmem).1 with (hs | hs) | hs <;> simp [inProgress, hs]

theorem tickMoc_phase (x : Moc) : (tickMoc x).phase = x.phase := by
  unfold tickMoc
  split <;> rfl

theorem inProgress_congr {q p : Bsq} (h : p.state = q.state) : inProgress p = inProgress q := by
  simp only [inProgress, h]

theorem resetBay_notInProgress (fitted : Bool) : inProgress (resetBay fitted) = false := by cases fitted <;> rfl

theorem Move.asleepLaw {s t : State} (h : Move s t) (hs : AsleepLaw s) : AsleepLaw t := by
  cases h with
  | bay b hb => exact hs.of_atRest (by rw [hb.frame.moc]) hb.atRest
  | mode hm =>
    intro hrest b
    rcases hm with hm | hm | ⟨-, hm⟩
    · exact hs (hm ▸ hrest) b
    · exact absurd hm (Resting.ne_run hrest)
    · rw [hm] at hrest
      simp at hrest
  | @boiler next => exact hs.of_atRest (congrArg Moc.phase (toBoiler_plantFrame next s).moc) (toBoiler_atRest next s)
  | @lock cause =>
    refine hs.of_atRest (congrArg Moc.phase (lockBoiler_plantFrame cause s).moc) fun h => ?_
    exact lockBoiler_keeps h (toBoiler_atRest .locked _ (h.congr rfl rfl))
  | unlock =>
    exact hs.of_atRest (congrArg Moc.phase (boilerUnlocked_plantFrame s).moc) fun h =>
      toBoiler_atRest .cold _ (h.congr rfl rfl)
  | round =>
    have hround := allotmentRound_of_decision (s := s) rfl
    rw [hround]
    generalize decideCompressor _ s = d
    cases d <;> exact hs
  | standby => exact fun hrest => by rw [enterStandby_phase] at hrest; simp at hrest
  | sleep _ hmay =>
    intro _ b
    rw [(enterSleep_rings s).1]
    exact maySleep_notInProgress hmay b
  | wake hphase => exact fun _ => hs (.inr (.inl hphase))
  | @front b u _ _ _ =>
    have hframe := (reholdFront_frame b { s with snu := u }).trans (driveValve_frame b _)
    refine hs.of_atRest (congrArg Moc.phase hframe.moc) fun h => ?_
    have hsense : AtRest { s with snu := u } := h.congr rfl rfl
    exact (rehold_keeps changeHolds_atRest b hsense).1.congr rfl rfl
  | @tankFull u _ _ =>
    refine hs.of_atRest (congrArg Moc.phase (forceCompressorOff_plantFrame { s with snu := u }).moc) fun h => ?_
    have hsense : AtRest { s with snu := u } := h.congr rfl rfl
    exact forceCompressorOff_atRest hsense
  | @temperature b new u _ _ _ =>
    refine hs.of_atRest (congrArg Moc.phase (temperatureTaken_kept b _ new { s with snu := u }).moc) fun h => ?_
    have hsense : AtRest { s with snu := u } := h.congr rfl rfl
    have hfault := channelFault_keeps (p := AtRest) (fun _ h => h.congr rfl rfl) (fun hb h => hb.atRest h) b
      (s.snu.temps.get b) new hsense
    exact hfault.congr (congrArg Moc.phase ((temperatureTaken_kept b _ new { s with snu := u }).moc.trans
      (channelFault_kept b _ new { s with snu := u }).moc.symm)) (temperatureTaken_bsq b _ new _)
  | reset =>
    intro _ b
    change inProgress ((PerBay.map _ _).get b) = false
    rw [PerBay.get_map]
    exact resetBay_notInProgress _
  | tick =>
    intro hrest b
    change inProgress ((s.bsq.map tickBay).get b) = false
    rw [PerBay.get_map, inProgress_congr (tickBay_state _).1]
    exact hs ((tickMoc_phase s.moc) ▸ hrest) b
  | queue | link | events | presence | budget | roundTimer | untaken | store | boilerParts | restartPae | senses =>
    exact hs

/-- Without a running step there is no demand, and the heater must be off. -/
theorem auxDemand_of_notInProgress {b : Bay} {s : State} (h : inProgress (s.bsq.get b) = false) :
    auxDemand b s = 0 := auxDemand_of_mustBeOff (.inl (not_running_of_not_progress h))

theorem Move.heaterLaw {s t : State} (h : Move s t) (hasleep : AsleepLaw s) (hs : HeatSafe s) : HeaterLaw t := by
  cases h with
  | bay b hb => exact (hb.heatSafe hs).heater
  | boiler => exact (toBoiler_heatSafe _ s hs).heater
  | @lock cause =>
    have hcaused : HeatSafe { s with blc := { s.blc with cause := cause } } := hs.congr rfl rfl rfl rfl
    exact (lockBoiler_keeps hs (toBoiler_heatSafe .locked _ hcaused)).heater
  | unlock =>
    have hcleared : HeatSafe { s with blc := { s.blc with cause := .none } } := hs.congr rfl rfl rfl rfl
    exact (toBoiler_heatSafe .cold _ hcleared).heater
  | round =>
    have hround := allotmentRound_of_decision (s := s) rfl
    rw [hround]
    intro b
    have hsame : (roundWith (decideCompressor (s.pae.effective - 40 - classZero s) s) s).alc.bays = s.alc.bays ∧
        (roundWith (decideCompressor (s.pae.effective - 40 - classZero s) s) s).bsq = s.bsq ∧
        (roundWith (decideCompressor (s.pae.effective - 40 - classZero s) s) s).snu = s.snu := by
      generalize decideCompressor _ s = d
      cases d <;> exact ⟨rfl, rfl, rfl⟩
    obtain ⟨halc, hbsq, hsnu⟩ := hsame
    obtain ⟨hdemand, hoff⟩ := hs.heater b
    refine ⟨?_, fun hb => ?_⟩
    · rw [halc, hdemand]
      exact (auxDemand_congr (by rw [hbsq]) (by rw [hsnu])).symm
    · have hbefore : MustBeOff b s := MustBeOff.congr hb (.inl (by rw [hbsq])) (by rw [hsnu])
      refine ⟨(roundTable_zero _ s).2 b (hdemand.trans (auxDemand_of_mustBeOff hbefore)), ?_⟩
      rw [halc]
      exact (hoff hbefore).2
  | restartPae => exact (hs.congr rfl rfl rfl rfl).heater
  | standby => exact (enterStandby_heatSafe hs).heater
  | sleep _ hmay =>
    intro b
    have halc : (enterSleep s).alc.bays = s.alc.bays.map sleepOutputs := by
      unfold enterSleep
      dsimp only
      split <;> rfl
    have hidle : inProgress ((enterSleep s).bsq.get b) = false := by
      rw [(enterSleep_rings s).1]
      exact maySleep_notInProgress hmay b
    rw [halc, PerBay.get_map, (enterSleep_boiler s).2.2.2.2]
    exact ⟨(auxDemand_of_notInProgress hidle).symm, fun _ => ⟨PerBay.get_fill 0 b, rfl⟩⟩
  | wake hphase =>
    intro b
    have hidle := hasleep (.inr (.inl hphase)) b
    obtain ⟨hdemand, hoff⟩ := hs.heater b
    refine ⟨?_, fun _ => hoff (.inl (not_running_of_not_progress hidle))⟩
    exact (hdemand.trans (auxDemand_of_notInProgress hidle)).trans (auxDemand_of_notInProgress (s := wakePart s) hidle).symm
  | @senses u _ htemps =>
    have hsense : HeatSafe { s with snu := u } := hs.congr rfl htemps rfl rfl
    exact hsense.heater
  | @front b u _ htemps _ =>
    have hsense : HeatSafe { s with snu := u } := hs.congr rfl htemps rfl rfl
    have hheld := (rehold_keeps changeHolds_heatSafe b hsense).1
    exact (hheld.congr rfl rfl rfl rfl).heater
  | @tankFull u _ htemps =>
    have hsense : HeatSafe { s with snu := u } := hs.congr rfl htemps rfl rfl
    exact (forceCompressorOff_heatSafe hsense).heater
  | temperature b new _ htemps => exact (temperatureTaken_heatSafe b new htemps hs).heater
  | reset cause straps =>
    intro b
    have hbay : inProgress ((resetPart cause straps s).bsq.get b) = false := by
      change inProgress ((PerBay.map _ _).get b) = false
      rw [PerBay.get_map]
      exact resetBay_notInProgress _
    have halc : (resetPart cause straps s).alc.bays.get b = State.reset.alc.bays.get b := rfl
    rw [auxDemand_of_notInProgress hbay, halc]
    cases b <;> exact ⟨rfl, fun _ => ⟨rfl, rfl⟩⟩
  | tick =>
    intro b
    obtain ⟨hdemand, hoff⟩ := hs.heater b
    have htemp : (Machine.tick s).snu.temps.get b = s.snu.temps.get b := by
      change (tickSnu s).temps.get b = _
      rw [(tickSnu_inputs s).2]
    refine ⟨hdemand.trans (auxDemand_congr (tick_runningCopy b s) htemp).symm, fun hb => hoff ?_⟩
    refine MustBeOff.congr hb (.inr ⟨?_, tick_runningCopy b s⟩) htemp
    change ((s.bsq.map tickBay).get b).state = _
    rw [PerBay.get_map]
    exact (tickBay_state _).1
  | queue | link | events | presence | budget | mode | roundTimer | untaken | store | boilerParts => exact hs.heater

/-- Settles O60: the carry and the boiler grant by themselves, the valves with the place where the boiler rests, and the
heaters with what sleeps. -/
theorem boilerAndHeatLawsAreKept : Obligations.BoilerAndHeatLawsAreKept := by
  refine ⟨keptByStep_of_moves Move.carryLaw, keptByStep_of_moves Move.boilerGrantLaw, ?_, ?_⟩
  · refine keptByStep_of_moves fun h hs => ?_
    obtain ⟨hrest, hvalves, hcopies⟩ := hs
    exact ⟨h.boilerRestLaw hrest, h.valveLaw hrest ⟨hvalves, hcopies⟩, h.eachBay copies_kept hcopies⟩
  · refine keptByStep_of_moves fun h hs => ?_
    obtain ⟨hbays, hasleep, hheater, hcopies⟩ := hs
    exact ⟨h.eachBay bayLaw_kept hbays, h.asleepLaw hasleep, h.heaterLaw hasleep ⟨hheater, hcopies⟩,
      h.eachBay copies_kept hcopies⟩

end Sys2Proof.Machine
end

section
/-! One step on an empty queue, the resets, start-up and wake (R72, R131, R134, R139, R180, R181, R186). -/

namespace Sys2Proof.Machine

/-! ### A step -/

/-- Settles O1: the first equation of a step. -/
theorem stepRunsTheFrontCommand : Obligations.StepRunsTheFrontCommand := fun _ _ _ => rfl

theorem step_of_empty {s : State} (h : s.pending = []) : step s = idleStep s := by
  unfold step
  rw [h]

theorem tickMoc_eq (x : Moc) : tickMoc x = { x with timer := (tickMoc x).timer } := by
  unfold tickMoc
  split <;> rfl

theorem tickSnu_eq (s : State) : tickSnu s = { s.snu with
    switchTimer := (tickSnu s).switchTimer, analogTimer := (tickSnu s).analogTimer
    switchDue := (tickSnu s).switchDue, analogDue := (tickSnu s).analogDue } := by
  unfold tickSnu
  split <;> rfl

theorem tickPts_eq (p : Pts) : tickPts p = { p with phaseTimer := (tickPts p).phaseTimer } := by
  unfold tickPts
  split <;> rfl

theorem masterState_tick (m : Master) (s : State) : masterState m (tick s) = tickMaster m s := by
  cases m with
  | supervisor => rfl
  | panel b => exact PerBay.get_ofFn _ b

/-- The park timer counts in PARKING alone (R68). -/
theorem tickBay_parkTimer (q : Bsq) :
    (tickBay q).parkTimer = if q.state = .parking then min 180000 (q.parkTimer + 1) else q.parkTimer := by
  cases hs : q.state <;> simp [tickBay, hs, countTo, parkMaxMs]

/-- The step timer counts in RUNNING, the held time in WAITING and HELD, the stall timer in HELD with a plant reason (R53,
R54). -/
theorem tickBay_context {q : Bsq} {x : Context} (hx : q.context = some x) :
    (tickBay q).context = some { x with
      stepTimer := if q.state = .running then x.stepTimer + 1 else x.stepTimer
      heldTime := if q.state = .waiting ∨ q.state = .held then min 65535000 (x.heldTime + 1) else x.heldTime
      stallTimer :=
        if q.state = .held ∧ (q.holds.noSteam || q.holds.noPower || q.holds.tankFull || q.holds.plantStandby) = true
        then min 900000 (x.stallTimer + 1) else x.stallTimer } := by
  cases hs : q.state <;> simp [tickBay, hs, hx, countTo, heldMs, stallMs, hasPlantReason]

/-- Settles O2: a due event is taken; otherwise `tick` gives each block. -/
theorem emptyQueueTakesDueEventOrCountsTimers : Obligations.EmptyQueueTakesDueEventOrCountsTimers := by
  intro s hempty
  rw [step_of_empty hempty]
  refine ⟨fun c hc => by rw [idleStep, hc], fun hnone => ⟨tick s, by rw [idleStep, hnone], hempty, rfl, rfl, rfl, rfl, rfl,
    rfl, rfl, tickMoc_eq s.moc, rfl, rfl, rfl, tickSnu_eq s, tickPts_eq s.pts, fun m => ?_, fun b => ?_⟩⟩
  · rw [masterState_tick, tickMaster_eq]
  · have hbay : (tick s).bsq.get b = tickBay (s.bsq.get b) := PerBay.get_map _ _ b
    dsimp only
    rw [hbay]
    exact ⟨tickBay_parkTimer _, tickBay_none, fun x hx => tickBay_context hx⟩

/-! ### The resets (R181, R182) -/

/-- The inputs after a reset: every filter at its safe-assumed level, every channel UNKNOWN (R134, R139). -/
theorem inputsAfresh_of_snu {s t : State} (h : t.snu = resetSense s.snu) : InputsAfresh s t := by
  unfold InputsAfresh
  rw [h]
  exact ⟨fun b => PerBay.get_map _ _ b, rfl, rfl, rfl, rfl, rfl, fun b => PerBay.get_map _ _ b,
    fun b => PerBay.get_map _ _ b, rfl, rfl, rfl⟩

theorem resetPanel_eq (fitted : Bool) : resetPanel fitted =
    if fitted then ⟨false, 0, 0x0008#16, 0x000F#16, true⟩ else ⟨false, 0, 0, 0, false⟩ := by
  cases fitted <;> rfl

theorem resetPart_mastersAfresh (cause : ResetCause) (straps : Straps) (s : State) :
    MastersAfresh straps (resetPart cause straps s) := by
  refine ⟨rfl, rfl, rfl, rfl, rfl, fun b => ?_⟩
  have hpanel : (resetPart cause straps s).panels.get b = resetPanel (straps.fitted.get b) := PerBay.get_map _ _ b
  have hbsq : (resetPart cause straps s).bsq.get b = resetBay (straps.fitted.get b) := PerBay.get_map _ _ b
  rw [hpanel, hbsq, resetPanel_eq]
  refine ⟨rfl, ?_, ?_, rfl, rfl, rfl, rfl, rfl, rfl⟩
  · cases b <;> rfl
  · cases b <;> rfl

theorem resetPart_plantAfresh (cause : ResetCause) (straps : Straps) (s : State) :
    PlantAfresh (resetPart cause straps s) := by
  refine ⟨rfl, rfl, rfl, rfl, rfl, rfl, rfl, fun b => ?_⟩
  cases b <;> rfl

theorem resetPart_tableAfresh (cause : ResetCause) (straps : Straps) (s : State) :
    TableAfresh s (resetPart cause straps s) := by
  refine ⟨rfl, rfl, rfl, rfl, rfl, rfl, rfl, fun hmarker => ⟨?_, ?_, fun p hp => ?_⟩, fun hmarker => ⟨?_, ?_, ?_⟩⟩ <;>
    simp [resetPart, loadTable, *]

/-- Settles O3: both resets are `resetPart`, block by block. -/
theorem resetsSetEveryBlockAfresh : Obligations.ResetsSetEveryBlockAfresh := by
  have hreset (cause : ResetCause) (straps : Straps) (s : State) :
      MastersAfresh straps (resetPart cause straps s) ∧ PlantAfresh (resetPart cause straps s) ∧
        InputsAfresh s (resetPart cause straps s) ∧ TableAfresh s (resetPart cause straps s) :=
    ⟨resetPart_mastersAfresh cause straps s, resetPart_plantAfresh cause straps s, inputsAfresh_of_snu rfl,
      resetPart_tableAfresh cause straps s⟩
  exact fun straps s => ⟨⟨_, rfl, rfl, rfl, hreset .powerOn straps s⟩, ⟨_, rfl, rfl, rfl, hreset .pin straps s⟩⟩

/-! ### Right after reset -/

theorem reset_eachBay {law : Bsq → StepRing → OutcomeRing → Prop} (k : KeptByBay law) : EachBay law State.reset :=
  fun b => by cases b <;> exact k.reset true

theorem reset_lineLaw : LineLaw State.reset := by
  refine ⟨by unfold LineFollows; decide, fun b => ?_⟩
  cases b <;> (unfold LineFollows; decide)

theorem reset_fanLaw : FanLaw State.reset := by
  refine ⟨fun b => ?_, fun b x hx => ?_, factory_fans, fun _ h => (nomatch h), fun _ h => (nomatch h)⟩
  · cases b <;> exact ⟨Nat.zero_le 8, Nat.zero_le 8⟩
  · cases b <;> cases hx

/-- Settles O4: law by law. -/
theorem resetStateIsSafe : Obligations.ResetStateIsSafe := by
  obtain ⟨hbays, hrings, hentries⟩ := (inStep_iff _).mpr (reset_eachBay inStep_kept)
  refine ⟨reset_lineLaw, fun b h => ?_, hbays, hrings, reset_eachBay outcomeCounts_kept, ?_, ⟨rfl, rfl, rfl⟩,
    CompressorStopped.law ⟨rfl, rfl, rfl⟩, ⟨fun _ => .inl rfl, ?_⟩, .of_zero rfl, fun _ => rfl,
    .of_shut (fun h => (nomatch h)) fun b => ?_, reset_fanLaw, fun b => ?_, fun _ b => ?_, hentries,
    reset_eachBay copies_kept⟩
  · cases b <;> cases h
  · exact ⟨resetBudget_range.1, resetBudget_range.2.1, resetBudget_range.2.2, rfl⟩
  · exact ⟨fun h => (nomatch h), fun h => absurd rfl h⟩
  · cases b <;> rfl
  · cases b <;> exact ⟨rfl, fun _ => ⟨rfl, rfl⟩⟩
  · cases b <;> rfl

/-! ### Start-up and settling (R181, R186) -/

/-- Settles O5. -/
theorem startupEndsInRun : Obligations.StartupEndsInRun :=
  fun _ => ⟨fun h => congrArg Host.Outcome.next (if_pos h), fun h => congrArg Host.Outcome.next (if_neg h)⟩

/-- Settles O8: WOKE is bit 11 of the supervisor's set. -/
theorem settlingEndsInStandbyWithWoke : Obligations.SettlingEndsInStandbyWithWoke :=
  fun _ => ⟨fun h => congrArg Host.Outcome.next (if_pos h), fun h => congrArg Host.Outcome.next (if_neg h)⟩

/-! ### Wake, and characters outside RUN and STANDBY (R180, R186) -/

theorem exec_linkCharacter {cs : CharSamples} {x : RxChar} (hx : receiveChar cs = some x) (s : State) :
    exec (.linkCharacter cs) s = .next (takeChar x s) := by
  change execLinkCharacter cs s = _
  rw [execLinkCharacter, hx]

theorem takeChar_asleep {s : State} (x : RxChar) (hs : s.moc.phase = .sleep) (htx : s.pli.tx = none) :
    takeChar x s = sleepChar x s := by
  simp [takeChar, hs, htx]

theorem isAddress_iff (x : RxChar) : isAddress x = true ↔ x.mark = true ∧ x.framing = false := by simp [isAddress]

/-- Settles O6: `wakePart`, by WAKE or by the waking character. -/
theorem wakeSetsInputsAndPresenceAfresh : Obligations.WakeSetsInputsAndPresenceAfresh := by
  intro s hsleep htx
  refine ⟨wakePart s, ?_, fun cs x hx hmark hframing hbyte => ?_, rfl, rfl, ?_, rfl, fun b => PerBay.get_map _ _ b, rfl,
    rfl, rfl, rfl, rfl, rfl, rfl, rfl, rfl, rfl, rfl⟩
  · change Host.Outcome.next (if _ then _ else _) = _
    rw [if_pos ⟨hsleep, by rw [htx]; rfl⟩]
  · rw [exec_linkCharacter hx, takeChar_asleep x hsleep htx, sleepChar,
      if_pos ⟨(isAddress_iff x).mpr ⟨hmark, hframing⟩, hbyte⟩]
  · exact ⟨fun b => PerBay.get_map _ _ b, rfl, rfl, rfl, rfl, rfl, fun b => PerBay.get_map _ _ b,
      fun b => PerBay.get_map _ _ b, rfl, rfl, rfl⟩

/-- Settles O7: by the phase the character finds. -/
theorem charactersOutsideRunningOnlyWakeOrSkip : Obligations.CharactersOutsideRunningOnlyWakeOrSkip := by
  intro cs x s hx
  rw [exec_linkCharacter hx]
  refine ⟨fun hs => ?startUp, fun hs htx hother => ?sleep, fun hs hmark hframing => ?address,
    fun hs hmark hframing => ?data⟩
  case startUp => rw [takeChar, hs]
  case sleep =>
    rw [takeChar_asleep x hs htx, sleepChar, if_neg]
    rintro ⟨haddress, hbyte⟩
    obtain ⟨hmark, hframing⟩ := (isAddress_iff x).mp haddress
    rcases hother with h | h | h
    · rw [hmark] at h; cases h
    · rw [hframing] at h; cases h
    · exact h hbyte
  case address =>
    have hbreak := break_has_framing_error hx hframing
    have haddress := (isAddress_iff x).mpr ⟨hmark, hframing⟩
    simp only [takeChar, hs, settlingChar, hbreak, haddress, Bool.false_eq_true, if_false, if_true]
    rfl
  case data =>
    have hbreak := break_has_framing_error hx hframing
    simp [takeChar, hs, settlingChar, hbreak, isAddress, hmark]

end Sys2Proof.Machine
end

section
/-! The supervisor's requests on the plant: PLANT_MODE without effect, SLEEP and BUDGET_SET (R74, R183, R185). -/

namespace Sys2Proof.Machine

/-! ### Hearing the supervisor -/

/-- Hearing the supervisor: it is PRESENT, E is B again if it had been ABSENT, and the receiver is in HUNT (R170, R174,
R75). -/
theorem heard_supervisor_eq (s : State) : heard .supervisor s =
    { s with
      pli := { s.pli with rx := .hunt }
      supervisor := { s.supervisor with present := true, window := 0 }
      pae := { s.pae with effective := if s.supervisor.present then s.pae.effective else s.pae.budget } } := by
  cases hp : s.supervisor.present with
  | true => simp [heard, becomePresent, masterState, endFrame, hp, setMaster]
  | false => simp [heard, becomePresent, masterState, endFrame, hp, setMaster, returned, formEffective, effectiveBudget]

/-- A request of the supervisor that names no bay is answered by its owner (R175). -/
theorem takeRequest_supervisor_plant {r : Request} {s : State} (noise : Bool) (hA : Awake s)
    (hent : entitled .supervisor (reqKind r) = true) (hlen : lengthOk r = true) (hidx : indexOk r = true)
    (hbay : bayNamed r = none) : takeRequest .supervisor noise r s =
      respond .supervisor (reqCode (reqKind r)) noise (perform .supervisor r (heard .supervisor s)).2
        (perform .supervisor r (heard .supervisor s)).1 :=
  takeRequest_passes noise hA (passes_of_supervisor_plant hent hlen hidx hbay)

theorem takeRequest_plantMode {s : State} (noise : Bool) (mode : Byte) (hA : Awake s) :
    takeRequest .supervisor noise (.plantMode mode) s =
      respond .supervisor 0x12#8 noise (ownerPlantMode mode (heard .supervisor s)).2
        (ownerPlantMode mode (heard .supervisor s)).1 :=
  takeRequest_supervisor_plant noise hA rfl rfl rfl rfl

/-! ### PLANT_MODE (R183, R185) -/

theorem ownerPlantModeRun_of_not_standby {s : State} (h : s.moc.phase ≠ .standby) :
    ownerPlantModeRun s = (s, ackWith [modeCode s.moc.phase]) := by
  simp [ownerPlantModeRun, h]

theorem ownerPlantModeStandby_of_not_run {s : State} (h : s.moc.phase ≠ .run) :
    ownerPlantModeStandby s = (s, ackWith [modeCode s.moc.phase]) := by
  simp [ownerPlantModeStandby, h]

theorem ownerPlantModeSleep_refuses {s : State} (h : ¬ (s.moc.phase = .standby ∧ maySleep s = true)) :
    ownerPlantModeSleep s = (s, nakWith .badState [modeCode s.moc.phase]) := if_neg h

theorem ownerPlantModeSleep_sleeps {s : State} (h : s.moc.phase = .standby ∧ maySleep s = true) :
    ownerPlantModeSleep s = (enterSleep s, ackWith [modeCode (enterSleep s).moc.phase]) := if_pos h

/-- SLEEP is taken when every bay is IDLE, ABSENT or FAULTED with no complete program queued, and no commit runs (R185). -/
theorem maySleep_iff (s : State) : maySleep s = true ↔
    (∀ b, ((s.bsq.get b).state = .idle ∨ (s.bsq.get b).state = .absent ∨ (s.bsq.get b).state = .faulted) ∧
      queuedPrograms (s.srs.get b) = 0) ∧ s.pts.phase = .idle := by
  have hall (b : Bay) : b ∈ Bay.all := by cases b <;> decide
  simp only [maySleep, Bool.and_eq_true, List.all_eq_true, Bool.or_eq_true, decide_eq_true_eq, or_assoc]
  exact ⟨fun h => ⟨fun b => h.1 b (hall b), h.2⟩, fun h => ⟨fun b _ => h.1 b, h.2⟩⟩

/-- Settles O9: the owner's answer where it changes nothing. -/
theorem plantModeRequestsWithoutEffect : Obligations.PlantModeRequestsWithoutEffect := by
  intro noise s
  have hphase : (heard .supervisor s).moc.phase = s.moc.phase := by rw [heard_moc]
  refine ⟨fun hs => ?run, fun hs => ?standby, fun hs => ?asleepFromRun, fun hs hfails => ?refused⟩
  case run =>
    change Host.Outcome.next (takeRequest _ _ _ s) = _
    rw [takeRequest_plantMode noise _ (.inl hs)]
    change Host.Outcome.next (respond _ _ _ (ownerPlantModeRun _).2 (ownerPlantModeRun _).1) = _
    rw [ownerPlantModeRun_of_not_standby (by simp [hphase, hs]), hphase, hs]
    rfl
  case standby =>
    change Host.Outcome.next (takeRequest _ _ _ s) = _
    rw [takeRequest_plantMode noise _ (.inr hs)]
    change Host.Outcome.next (respond _ _ _ (ownerPlantModeStandby _).2 (ownerPlantModeStandby _).1) = _
    rw [ownerPlantModeStandby_of_not_run (by simp [hphase, hs]), hphase, hs]
    rfl
  case asleepFromRun =>
    change Host.Outcome.next (takeRequest _ _ _ s) = _
    rw [takeRequest_plantMode noise _ (.inl hs)]
    change Host.Outcome.next (respond _ _ _ (ownerPlantModeSleep _).2 (ownerPlantModeSleep _).1) = _
    rw [ownerPlantModeSleep_refuses (by simp [hphase, hs]), hphase, hs]
    rfl
  case refused =>
    change Host.Outcome.next (takeRequest _ _ _ s) = _
    rw [takeRequest_plantMode noise _ (.inr hs)]
    change Host.Outcome.next (respond _ _ _ (ownerPlantModeSleep _).2 (ownerPlantModeSleep _).1) = _
    rw [ownerPlantModeSleep_refuses, hphase, hs]
    · rfl
    rintro ⟨-, hmay⟩
    rw [heard_supervisor_eq] at hmay
    obtain ⟨hbays, hidle⟩ := (maySleep_iff _).mp hmay
    rcases hfails with ⟨b, hb | hb | hb⟩ | hcommit
    · rcases (hbays b).1 with h | h | h <;> simp [inProgress, h] at hb
    · rcases (hbays b).1 with h | h | h <;> (rw [hb] at h; cases h)
    · exact hb (hbays b).2
    · exact hcommit hidle

/-- Entry to SLEEP, block by block; a compressor that is ON turns OFF (R185). -/
theorem enterSleep_eq (s : State) : enterSleep s =
    { s with
      moc := { s.moc with phase := .sleep, pumpMode := .auto }
      pae := { s.pae with
        grants := GrantTable.zero, compressorOn := false
        minOff := if s.pae.compressorOn then 0 else s.pae.minOff }
      untaken := { blc := false, alc := false, bsq := PerBay.fill false }
      blc := { s.blc with
        fillTimer := 0, idleTimer := 0, carry := 0, lastYield := 0, credits := PerBay.fill 0
        valves := PerBay.fill false, pumpDrive := false, heaterDrive := 0 }
      alc := { bays := s.alc.bays.map sleepOutputs, compressorDrive := false }
      snu := { s.snu with switchDue := [], analogDue := [] } } := by
  cases hon : s.pae.compressorOn <;> simp [enterSleep, compressorOff, hon]

/-- Settles O12: `enterSleep`, block by block. -/
theorem sleepStopsEveryOutputAndKeepsTheRest : Obligations.SleepStopsEveryOutputAndKeepsTheRest := by
  intro noise s hs hbays hcommit
  have hmay : (heard .supervisor s).moc.phase = .standby ∧ maySleep (heard .supervisor s) = true := by
    rw [heard_supervisor_eq]
    exact ⟨hs, (maySleep_iff _).mpr ⟨hbays, hcommit⟩⟩
  refine ⟨respond .supervisor 0x12#8 noise (ackWith [0x02#8]) (enterSleep (heard .supervisor s)), ?_, ?_⟩
  · change Host.Outcome.next (takeRequest _ _ _ s) = _
    rw [takeRequest_plantMode noise _ (.inr hs)]
    change Host.Outcome.next (respond _ _ _ (ownerPlantModeSleep _).2 (ownerPlantModeSleep _).1) = _
    rw [ownerPlantModeSleep_sleeps hmay, enterSleep_eq]
    rfl
  · rw [enterSleep_eq, heard_supervisor_eq]
    refine ⟨rfl, rfl, rfl, rfl, rfl, rfl, fun b => ?_, rfl, rfl, rfl, rfl, rfl, rfl, rfl, rfl, rfl, rfl, rfl, rfl⟩
    have hmap : (s.alc.bays.map sleepOutputs).get b = sleepOutputs (s.alc.bays.get b) := PerBay.get_map _ _ b
    change ((s.alc.bays.map sleepOutputs).get b).fan = _ ∧ ((s.alc.bays.map sleepOutputs).get b).damper = _ ∧
      ((s.alc.bays.map sleepOutputs).get b).osc = _ ∧ ((s.alc.bays.map sleepOutputs).get b).demand = 0 ∧
      ((s.alc.bays.map sleepOutputs).get b).drive = 0
    rw [hmap]
    exact ⟨rfl, rfl, rfl, rfl, rfl⟩

/-! ### BUDGET_SET (R74) -/

/-- Settles O42: the supervisor being PRESENT, E is what is applied. -/
theorem budgetSetAppliesTheClampedValue : Obligations.BudgetSetAppliesTheClampedValue := by
  intro noise value s hA
  refine ⟨clampBudget value.toNat, ?_, (clampBudget_range _).2.2, fun h => ?_, fun h => ?_, fun hlow hhigh => ?_⟩
  · change Host.Outcome.next (takeRequest _ _ _ s) = _
    rw [takeRequest_supervisor_plant noise hA rfl rfl rfl rfl, heard_supervisor_eq]
    rfl
  · simp only [clampBudget]
    omega
  · simp only [clampBudget]
    omega
  · simp only [clampBudget]
    omega

end Sys2Proof.Machine
end

section
/-! The CRC, the bytes of records and requests, and frame assembly character by character (R168 to R172, R190, R192). -/

namespace Sys2Proof.Machine

/-! ### The CRC register (R172) -/

/-- A bit equal to the register's top bit shifts it. -/
theorem crcBit_shift {r : Half} {bit : Bool} {k : Nat} (hk : k ≤ 15) (h : r.getLsbD (15 - k) = bit) :
    crcBit (r <<< k) bit = r <<< (k + 1) := by
  have htop : (r <<< k).getLsbD 15 = bit := by
    rw [BitVec.getLsbD_shiftLeft, h]
    simp [Nat.not_lt.mpr hk]
  rw [crcBit, htop, bne_self_eq_false, if_neg Bool.false_ne_true, BitVec.shiftLeft_add]

/-- A byte equal to the register's high byte shifts it out. -/
theorem crcByte_shift {r : Half} {b : Byte} (h : ∀ i, i < 8 → r.getLsbD (8 + i) = b.getLsbD i) :
    crcByte r b = r <<< 8 := by
  have hzero : crcBit r (b.getLsbD 7) = r <<< 1 := by
    simpa using crcBit_shift (r := r) (k := 0) (by omega) (h 7 (by omega))
  rw [crcByte, hzero, crcBit_shift (by omega) (h 6 (by omega)), crcBit_shift (by omega) (h 5 (by omega)),
    crcBit_shift (by omega) (h 4 (by omega)), crcBit_shift (by omega) (h 3 (by omega)),
    crcBit_shift (by omega) (h 2 (by omega)), crcBit_shift (by omega) (h 1 (by omega)),
    crcBit_shift (by omega) (h 0 (by omega))]

/-- Fed with its own two bytes, high byte first, the register is empty. -/
theorem crcByte_own (c : Half) : crcByte (crcByte c (hiByte c)) (loByte c) = 0#16 := by
  have hhigh : crcByte c (hiByte c) = c <<< 8 := crcByte_shift fun i hi => by
    rw [hiByte, BitVec.getLsbD_extractLsb']
    simp [hi]
  have hlow : crcByte (c <<< 8) (loByte c) = c <<< 8 <<< 8 := crcByte_shift fun i hi => by
    rw [loByte, BitVec.getLsbD_extractLsb', BitVec.getLsbD_shiftLeft]
    simp [hi]
    omega
  rw [hhigh, hlow, ← BitVec.shiftLeft_add]
  exact BitVec.shiftLeft_eq_zero (by omega)

/-- Settles O19: the register's two bytes shift it out; the nine digits are evaluated. -/
theorem crcOfASequenceAndItsCrcIsZero : Obligations.CrcOfASequenceAndItsCrcIsZero := by
  have hown (bytes : List Byte) : crc16 (bytes ++ halfBytes (crc16 bytes)) = 0#16 := by
    rw [crc16, List.foldl_append]
    exact crcByte_own (crc16 bytes)
  exact ⟨hown, by decide +kernel⟩

/-! ### Bytes of fields and records (R192) -/

@[simp] theorem halfOf_halves (h : Half) : halfOf (hiByte h) (loByte h) = h := by
  refine BitVec.eq_of_getLsbD_eq fun i hi => ?_
  simp only [halfOf, hiByte, loByte, BitVec.getLsbD_append, BitVec.getLsbD_extractLsb']
  by_cases hlow : i < 8
  · simp [hlow]
  · have hsum : 8 + (i - 8) = i := by omega
    have hhigh : i - 8 < 8 := by omega
    simp [hlow, hhigh, hsum]

theorem parseRecords_bytes (rs : List StepRecord) : parseRecords (rs.flatMap recordBytes) = some rs := by
  induction rs with
  | nil => rfl
  | cons r rs ih =>
    change parseRecords (recordBytes r ++ rs.flatMap recordBytes) = _
    simp [recordBytes, parseRecords, ih]

theorem parseRequest_append {bay expected : Byte} {bytes : List Byte} {rs : List StepRecord}
    (h : parseRecords bytes = some rs) (hbatch : batchOk rs = true) :
    parseRequest .stepAppend (bay :: expected :: bytes) = some (.stepAppend bay expected rs) := by
  change (match parseRecords bytes with
    | some rs => if batchOk rs then some (Request.stepAppend bay expected rs) else none
    | none => none) = _
  rw [h]
  exact if_pos hbatch

theorem parseRequest_profileWrite (slot state : Byte) (v : ProfileValues) :
    parseRequest .profileWrite (requestBytes (.profileWrite slot state v)) = some (.profileWrite slot state v) := by
  have hread (h : Half) := halfOf_halves h
  change some (Request.profileWrite slot state ⟨halfOf _ _, halfOf _ _, halfOf _ _, halfOf _ _, halfOf _ _, halfOf _ _⟩) = _
  rw [hread, hread, hread, hread, hread, hread]

theorem parseRequest_bytes {r : Request} (h : lengthOk r = true) : parseRequest (reqKind r) (requestBytes r) = some r := by
  cases r with
  | stepAppend bay expected rs => exact parseRequest_append (parseRecords_bytes rs) h
  | eventsClear e => exact congrArg (fun e => some (Request.eventsClear e)) (halfOf_halves e)
  | eventsMask e => exact congrArg (fun e => some (Request.eventsMask e)) (halfOf_halves e)
  | budgetSet v => exact congrArg (fun v => some (Request.budgetSet v)) (halfOf_halves v)
  | profileWrite slot state v => exact parseRequest_profileWrite slot state v
  | _ => rfl

@[simp] theorem masterOf_masterAddress (m : Master) : masterOf (masterAddress m) = some m := by
  cases m with
  | supervisor => rfl
  | panel b => cases b <;> rfl

theorem masterOf_eq_some {source : Byte} {m : Master} (h : masterOf source = some m) : source = masterAddress m := by
  unfold masterOf at h
  split at h <;> cases h <;> exact BitVec.eq_of_toNat_eq (by simpa using ‹source.toNat = _›)

@[simp] theorem reqOfCode_reqCode (k : ReqKind) : reqOfCode (reqCode k) = some k := by cases k <;> rfl

/-- Settles O18: source, kind and payload each read back. -/
theorem requestFrameIsTakenAsItsRequest : Obligations.RequestFrameIsTakenAsItsRequest := by
  intro m r noise s hlen
  have hparse := parseRequest_bytes hlen
  refine ⟨hparse, ?_⟩
  rw [acceptFrame, masterOf_masterAddress]
  dsimp only
  rw [reqOfCode_reqCode, Option.bind_some, hparse]
  rfl

/-! ### A character given to frame assembly (R170, R171) -/

theorem assemble_quietly {c : RxChar} {s : State} {rx : Rx} (h : rxMove c s.pli.rx = quietly rx) :
    assemble c s = setRx rx s := by
  simp [assemble, h, quietly]

theorem assemble_discarding {c : RxChar} {s : State} {rx : Rx} (h : rxMove c s.pli.rx = discarding rx) :
    assemble c s = linkFault (setRx rx s) := by
  simp [assemble, h, discarding]

theorem assemble_frame {c : RxChar} {s : State} {f : Assembled} (h : rxMove c s.pli.rx = ⟨.hunt, false, some f⟩) :
    assemble c s = if crcMatches f then acceptFrame f.source f.kind f.payload f.noise (setRx .hunt s)
      else linkFault (setRx .hunt s) := by
  simp [assemble, h]

theorem setRx_same {s : State} {rx : Rx} (h : s.pli.rx = rx) : setRx rx s = s := by
  subst h
  rfl

/-- A state of the receiver that takes a frame hands a character to `inFrame`. -/
theorem rxMove_assembling {c : RxChar} {rx : Rx} (h : assembling rx = true) : ∃ data, rxMove c rx = inFrame c data := by
  cases rx with
  | hunt => cases h
  | skip => cases h
  | header | payload | check => exact ⟨_, rfl⟩

theorem inFrame_data {c : RxChar} (data : RxMove) (hbreak : c.isBreak = false) (hframing : c.framing = false)
    (hmark : c.mark = false) : inFrame c data = data := by
  simp [inFrame, hbreak, hframing, hmark]

/-- Settles O16: `rxMove`, state by state. -/
theorem charactersMoveFrameAssembly : Obligations.CharactersMoveFrameAssembly := by
  intro cs s hA htx
  refine ⟨fun hfalse => ?_, fun x hx => ?_⟩
  · change execLinkCharacter cs s = _
    rw [execLinkCharacter, hfalse]
  have hexec : exec (.linkCharacter cs) s = .next (assemble x s) := execLinkCharacter_assembles hx hA htx
  have hclear (hf : x.framing = false) : x.isBreak = false := break_has_framing_error hx hf
  simp only [hexec, Host.Outcome.next.injEq]
  refine ⟨fun hrx hmark hframing => ?opens, fun hrx hno => ?hunts, fun hrx hbreak => ?skipBreak,
    fun hrx hbreak hno => ?skips, fun hrx => ⟨fun hbreak => ?broken, fun hbreak hframing => ?framing,
      fun hframing hmark => ?address⟩, fun hframing hmark => ⟨fun got n hrx hlen => ?header, fun source kind n hrx => ?length,
      fun source kind len got n hrx => ?payload, fun source kind payload n hrx => ?high,
      fun source kind payload high n hrx => ?low⟩⟩
  case opens =>
    refine assemble_quietly ?_
    rcases hrx with hrx | hrx <;> simp [rxMove, hrx, hmark, hframing, hclear hframing, openFrame, ownAddress] <;> rfl
  case hunts =>
    have hrest : rxMove x s.pli.rx = quietly .hunt := by
      rcases hno with h | h <;> simp [rxMove, hrx, h]
    exact (assemble_quietly hrest).trans (setRx_same hrx)
  case skipBreak => exact assemble_quietly (by simp [rxMove, hrx, hbreak])
  case skips =>
    have hrest : rxMove x s.pli.rx = quietly .skip := by
      rcases hno with h | h <;> simp [rxMove, hrx, hbreak, h]
    exact (assemble_quietly hrest).trans (setRx_same hrx)
  case broken =>
    obtain ⟨data, hdata⟩ := rxMove_assembling (c := x) hrx
    exact assemble_quietly (by simp [hdata, inFrame, hbreak])
  case framing =>
    obtain ⟨data, hdata⟩ := rxMove_assembling (c := x) hrx
    exact assemble_discarding (by simp [hdata, inFrame, hbreak, hframing])
  case address =>
    obtain ⟨data, hdata⟩ := rxMove_assembling (c := x) hrx
    exact assemble_discarding (by rw [hdata, inFrame, hclear hframing, hframing, hmark]; rfl)
  case header =>
    refine assemble_quietly ?_
    rw [hrx, rxMove, inFrame_data _ (hclear hframing) hframing hmark, headerData]
    · rintro source kind rfl
      exact hlen rfl
  case length =>
    have hdata : rxMove x s.pli.rx = headerData [source, kind] n x := by
      rw [hrx, rxMove, inFrame_data _ (hclear hframing) hframing hmark]
    by_cases hzero : x.byte = 0#8
    · rw [if_pos hzero]
      exact assemble_quietly (by simp [hdata, headerData, afterLength, hzero])
    · rw [if_neg hzero]
      by_cases hle : x.byte.toNat ≤ 48
      · rw [if_pos hle]
        exact assemble_quietly (by simp [hdata, headerData, afterLength, hzero, hle])
      · rw [if_neg hle]
        exact assemble_discarding (by simp [hdata, headerData, afterLength, hzero, hle])
  case payload =>
    have hdata : rxMove x s.pli.rx = payloadData source kind len got n x := by
      rw [hrx, rxMove, inFrame_data _ (hclear hframing) hframing hmark]
    by_cases hlt : got.length + 1 < len
    · rw [if_pos hlt]
      exact assemble_quietly (by simp [hdata, payloadData, Nat.not_le.mpr hlt])
    · rw [if_neg hlt]
      exact assemble_quietly (by simp [hdata, payloadData, Nat.not_lt.mp hlt])
  case high =>
    refine assemble_quietly ?_
    rw [hrx, rxMove, inFrame_data _ (hclear hframing) hframing hmark, checkData]
  case low =>
    have hdata : rxMove x s.pli.rx =
        ⟨.hunt, false, some ⟨source, kind, payload, halfOf high x.byte, n || x.noise⟩⟩ := by
      rw [hrx, rxMove, inFrame_data _ (hclear hframing) hframing hmark, checkData]
    rw [assemble_frame hdata]
    have hmatches : crcMatches ⟨source, kind, payload, halfOf high x.byte, n || x.noise⟩ =
        decide (frameCrc 0x40#8 source kind payload = high ++ x.byte) := rfl
    rw [hmatches]
    by_cases hcrc : frameCrc 0x40#8 source kind payload = high ++ x.byte
    · rw [if_pos hcrc, if_pos (decide_eq_true hcrc)]
      rfl
    · rw [if_neg hcrc, if_neg (fun h => hcrc (of_decide_eq_true h))]
      rfl

/-! ### A frame, character by character (R170, R172) -/

/-- A character of a frame, sent without noise. -/
def charSent (ch : WireChar) : Instr := .linkCharacter (cleanChar ch.mark ch.byte)

theorem execAll_cons {c : Instr} {rest : List Instr} {s t : State} (h : exec c s = .next t) :
    execAll (c :: rest) s = execAll rest t := by
  rw [execAll, h]

section
variable {s : State}

/-- A character that moves frame assembly without event. -/
theorem execAll_char {rx rx' : Rx} {mark : Bool} {byte : Byte} (rest : List Instr) (hA : Awake s) (htx : s.pli.tx = none)
    (h : rxMove ⟨byte, mark, false, false, false⟩ rx = quietly rx') :
    execAll (charSent ⟨mark, byte⟩ :: rest) (setRx rx s) = execAll rest (setRx rx' s) := by
  refine execAll_cons ?_
  change execLinkCharacter _ (setRx rx s) = _
  rw [execLinkCharacter_assembles (s := setRx rx s) (receive_cleanChar mark byte) hA htx,
    assemble_quietly (s := setRx rx s) h]
  rfl

/-- The payload, byte by byte: from a receiver that has stored `got` of it (R170). -/
theorem execAll_payload (source kind : Byte) (length : Nat) (tail : List Instr) (hA : Awake s) (htx : s.pli.tx = none)
    {got rest : List Byte} (hne : rest ≠ []) (hlen : got.length + rest.length = length) :
    execAll ((rest.map fun b => charSent ⟨false, b⟩) ++ tail) (setRx (.payload source kind length got false) s) =
      execAll tail (setRx (.check source kind (got ++ rest) none false) s) := by
  induction rest generalizing got with
  | nil => exact absurd rfl hne
  | cons b rest ih =>
    rw [List.map_cons, List.cons_append]
    cases rest with
    | nil =>
      refine execAll_char tail hA htx ?_
      simp only [List.length_cons, List.length_nil] at hlen
      simp [rxMove, inFrame, payloadData, hlen.symm]
    | cons b' rest =>
      have hmore : ¬ length ≤ (got ++ [b]).length := by
        simp only [List.length_cons, List.length_append, List.length_nil] at hlen ⊢
        omega
      rw [execAll_char _ hA htx (rx' := .payload source kind length (got ++ [b]) false)
        (by simp only [rxMove, inFrame, payloadData, if_neg hmore]; rfl)]
      rw [ih (got := got ++ [b]) (by simp) (by simpa [Nat.add_assoc, Nat.add_comm 1] using hlen), List.append_assoc]
      rfl

/-- The length and payload of a frame whose source and kind are stored (R170). -/
theorem execAll_body (source kind : Byte) (payload : List Byte) (tail : List Instr) (hA : Awake s)
    (htx : s.pli.tx = none) (hlen : payload.length ≤ 48) :
    execAll (charSent ⟨false, byteOf payload.length⟩ :: ((payload.map fun b => charSent ⟨false, b⟩) ++ tail))
      (setRx (.header [source, kind] false) s) = execAll tail (setRx (.check source kind payload none false) s) := by
  have hbyte : (byteOf payload.length).toNat = payload.length := by
    simp only [byteOf, BitVec.toNat_ofNat]
    omega
  cases payload with
  | nil => exact execAll_char tail hA htx (by simp [rxMove, inFrame, headerData, afterLength, byteOf])
  | cons b rest =>
    have hnonzero : byteOf (b :: rest).length ≠ 0#8 := fun h => by
      rw [h] at hbyte
      simp at hbyte
    have hopens : afterLength source kind (byteOf (b :: rest).length) false =
        some (.payload source kind (b :: rest).length [] false) := by
      rw [afterLength, if_neg hnonzero, hbyte, if_pos hlen]
    rw [execAll_char _ hA htx (rx' := .payload source kind (b :: rest).length [] false)
      (by simp only [rxMove, inFrame, headerData, Bool.or_false, hopens]; rfl)]
    exact execAll_payload source kind _ tail hA htx (by simp) (by simp)

end

theorem exec_charSent {mark : Bool} {byte : Byte} {s : State} (hA : Awake s) (htx : s.pli.tx = none) :
    exec (charSent ⟨mark, byte⟩) s = .next (assemble ⟨byte, mark, false, false, false⟩ s) :=
  execLinkCharacter_assembles (receive_cleanChar mark byte) hA htx

/-- The two bytes of the right CRC complete a frame (R172). -/
theorem execAll_check (source kind : Byte) (payload : List Byte) {s : State} (hA : Awake s) (htx : s.pli.tx = none) :
    execAll [charSent ⟨false, hiByte (frameCrc 0x40#8 source kind payload)⟩,
        charSent ⟨false, loByte (frameCrc 0x40#8 source kind payload)⟩]
      (setRx (.check source kind payload none false) s) =
      .next (acceptFrame source kind payload false (setRx .hunt s)) := by
  have hframe : ∃ crc, crc = frameCrc ownAddress source kind payload := ⟨_, rfl⟩
  obtain ⟨crc, hcrc⟩ := hframe
  change execAll [charSent ⟨false, hiByte (frameCrc ownAddress source kind payload)⟩,
    charSent ⟨false, loByte (frameCrc ownAddress source kind payload)⟩] _ = _
  rw [← hcrc, execAll_char _ hA htx (rx' := .check source kind payload (some (hiByte crc)) false)
    (by simp [rxMove, inFrame, checkData])]
  have hlast : rxMove ⟨loByte crc, false, false, false, false⟩ (.check source kind payload (some (hiByte crc)) false) =
      ⟨.hunt, false, some ⟨source, kind, payload, crc, false⟩⟩ := by
    simp [rxMove, inFrame, checkData]
  have htaken := exec_charSent (mark := false) (byte := loByte crc)
    (s := setRx (.check source kind payload (some (hiByte crc)) false) s) hA htx
  have hmatches : crcMatches ⟨source, kind, payload, crc, false⟩ = true := decide_eq_true hcrc.symm
  rw [assemble_frame (s := setRx _ s) hlast, if_pos hmatches] at htaken
  exact execAll_cons htaken

/-- Settles O17: address, source, kind, length, payload and the two CRC bytes in turn. -/
theorem frameSentInCharactersIsAccepted : Obligations.FrameSentInCharactersIsAccepted := by
  intro source kind payload s hA htx hrx hlen
  have hstart : setRx .hunt s = s := setRx_same hrx
  rw [← hstart]
  change execAll ((frameChars 0x40#8 source kind payload).map charSent) (setRx .hunt s) = _
  simp only [frameChars, halfBytes, List.map_cons, List.map_append, List.map_map, List.map_nil, List.cons_append,
    List.nil_append]
  rw [execAll_char _ hA htx (rx' := .header [] false) (by simp [rxMove, openFrame, ownAddress]),
    execAll_char _ hA htx (rx' := .header [source] false) (by simp [rxMove, inFrame, headerData]),
    execAll_char _ hA htx (rx' := .header [source, kind] false) (by simp [rxMove, inFrame, headerData])]
  exact (execAll_body source kind payload _ hA htx hlen).trans (execAll_check source kind payload hA htx)

end Sys2Proof.Machine
end

section
/-! What an examination of admission keeps, and presence (R34, R170 to R179). -/

namespace Sys2Proof.Machine

/-! ### What an examination of admission is made of -/

theorem examineSteam_keeps {p : State → Prop} (hidle : ∀ s, p s → p { s with blc := { s.blc with idleTimer := 0 } })
    (hboiler : ∀ next s, p s → p (toBoiler next s)) {s : State} (hs : p s) : p (examineSteam s) := by
  unfold examineSteam
  split
  · exact examineStart_keeps hboiler (hidle s hs)
  · exact hs

/-- What a rejection, an entry of step 0 and a move of the boiler keep, an examination of admission keeps (R34). -/
theorem examineAdmission_keeps {p : State → Prop} {b : Bay}
    (hreject : ∀ {s program} (index : Nat) (reason : RejectReason) (tag : Byte), admissible b s = true →
      headProgram (s.srs.get b).records = some program → p s → p (rejectProgram b program.length index reason tag s))
    (haccept : ∀ {s program}, admissible b s = true → headProgram (s.srs.get b).records = some program →
      firstFailure s.pts.table 0 program = none → p s → p (enterStep b 0 (programAdmitted b program s)))
    (hidle : ∀ s, p s → p { s with blc := { s.blc with idleTimer := 0 } })
    (hboiler : ∀ next s, p s → p (toBoiler next s)) {s : State} (hs : p s) : p (examineAdmission b s) := by
  suffices h : ∀ n s, p s → p (admitPrograms n b s) from h _ s hs
  intro n
  induction n with
  | zero => exact fun _ h => h
  | succ n ih =>
    intro s hs
    rw [admitPrograms]
    split
    next ha =>
      split
      next program hp =>
        split
        next i reason tag hf => exact ih _ (hreject i reason tag ha hp hs)
        next hf => exact examineSteam_keeps hidle hboiler (haccept ha hp hf hs)
      next => exact hs
    next => exact hs

/-! ### The masters' presence, windows and masks -/

/-- Every bay master's presence, window timer and mask are as they were. -/
def Attended (s t : State) : Prop := ∀ c, (t.panels.get c).present = (s.panels.get c).present ∧
  (t.panels.get c).window = (s.panels.get c).window ∧ (t.panels.get c).mask = (s.panels.get c).mask

namespace Attended
variable {s t u : State}

theorem refl (s : State) : Attended s s := fun _ => ⟨rfl, rfl, rfl⟩

theorem trans (h : Attended s t) (k : Attended t u) : Attended s u := fun c =>
  ⟨(k c).1.trans (h c).1, (k c).2.1.trans (h c).2.1, (k c).2.2.trans (h c).2.2⟩

theorem of_panels (h : t.panels = s.panels) : Attended s t := fun c => by rw [h]; exact ⟨rfl, rfl, rfl⟩

theorem forBays {f : Bay → State → State} (h : ∀ b s, Attended s (f b s)) (s : State) :
    Attended s (forBays f s) :=
  (((h .b0 s).trans (h .b1 _)).trans (h .b2 _)).trans (h .b3 _)

end Attended

section
variable (b : Bay) (s : State)

theorem raisePanel_attended (e : PanelEvent) : Attended s (raisePanel b e s) := by
  intro c
  unfold raisePanel
  split
  · by_cases hc : c = b
    · subst hc
      simp [raiseBits, redriveLine]
    · simp [hc]
  · exact ⟨rfl, rfl, rfl⟩

theorem postOutcome_attended (role : PostRole) (rec : Outcome) : Attended s (postOutcome b role rec s) := by
  unfold postOutcome
  dsimp only
  split
  · exact raisePanel_attended b (setOutcomes b _ s) _
  · exact .refl s

/-- After an event, what follows of a bay's driving leaves the masters as they are. -/
theorem driven_attended {t : State} (h : Attended s t) : Attended s (driveBay b t) := h.trans (.of_panels (by simp))

theorem holdsMoved_attended (h : HoldSet) (state : BayState) (x : Context) : Attended s (holdsMoved b h state x s) :=
  (raisePanel_attended b (setBsq b _ s) _).trans (raisePanel_attended b _ _)

theorem changeHolds_attended (h : HoldSet) : Attended s (changeHolds b h s) := by
  have hform := changeHolds_form b h s
  generalize changeHolds b h s = t at hform ⊢
  cases hform with
  | same => exact .refl s
  | kept => exact raisePanel_attended b (setBsq b _ s) _
  | held => exact driven_attended b s ((holdsMoved_attended b s _ _ _).trans (.of_panels (withdrawAux_panels b _)))
  | released => exact driven_attended b s (holdsMoved_attended b s _ _ _)

theorem promiseStep_attended (x : Context) : Attended s (promiseStep b x s) := by
  unfold promiseStep
  split <;> exact .refl s

theorem stepSettled_attended (x : Context) (h : HoldSet) : Attended s (stepSettled b x h s) := by
  unfold stepSettled
  dsimp only
  split
  · exact raisePanel_attended b (setBsq b _ s) _
  · exact (raisePanel_attended b (setBsq b _ s) _).trans (raisePanel_attended b _ _)

theorem startStep_attended : Attended s (startStep b s) := by
  have hform := startStep_form b s
  generalize startStep b s = t at hform ⊢
  cases hform with
  | none => exact .refl s
  | starts => exact driven_attended b s ((promiseStep_attended b s _).trans (stepSettled_attended b _ _ _))

theorem stepEntered_attended (index : Nat) (x : Context) : Attended s (stepEntered b index x s) :=
  raisePanel_attended b (setContext b _ s) _

theorem enterStep_attended (index : Nat) : Attended s (enterStep b index s) := by
  have hform := enterStep_form b index s
  generalize enterStep b index s = t at hform ⊢
  cases hform with
  | none => exact .refl s
  | waits => exact driven_attended b s (stepEntered_attended b s _ _)
  | starts => exact (stepEntered_attended b s _ _).trans (startStep_attended b _)

theorem emptyHolds_attended : Attended s (emptyHolds b s) := by
  unfold emptyHolds
  split
  · exact .refl s
  · exact raisePanel_attended b (setBsq b _ s) _

theorem enterParking_attended (result : ParkResult) : Attended s (enterParking b result s) := by
  unfold enterParking
  split
  · refine driven_attended b s ((emptyHolds_attended b s).trans ?_)
    refine Attended.trans ?_ (.of_panels (withdrawAux_panels b _))
    exact raisePanel_attended b (setOutcomes b _ (setBsq b _ (emptyHolds b s))) _
  · exact .refl s

theorem rejectProgram_attended (steps index : Nat) (reason : RejectReason) (tag : Byte) :
    Attended s (rejectProgram b steps index reason tag s) := postOutcome_attended b s _ _

theorem boilerMoved_panels (next : BoilerState) : (boilerMoved next s).panels = s.panels := by
  unfold boilerMoved
  dsimp only
  split <;> rfl

theorem toBoiler_attended (next : BoilerState) : Attended s (toBoiler next s) :=
  toBoiler_keeps (p := Attended s) (fun next t h => h.trans (.of_panels (boilerMoved_panels t next)))
    (fun b holds t h => h.trans (changeHolds_attended b t holds)) (fun b t h => h.trans (.of_panels (by simp))) next
    (.refl s)

theorem examineAdmission_attended : Attended s (examineAdmission b s) :=
  examineAdmission_keeps (p := Attended s)
    (fun index reason tag _ _ h => h.trans (rejectProgram_attended b _ _ index reason tag))
    (fun {t _} _ _ _ h => h.trans (enterStep_attended b (programAdmitted b _ t) 0)) (fun _ h => h)
    (fun next t h => h.trans (toBoiler_attended t next)) (.refl s)

end

/-! ### A valid frame makes its master PRESENT (R174) -/

theorem heard_panel_eq (b : Bay) (s : State) :
    let h := { s with
      panels := s.panels.set b { s.panels.get b with present := true, window := 0 }
      pli := { s.pli with rx := .hunt } }
    heard (.panel b) s = if (s.panels.get b).present then h else examineAdmission b h := rfl

/-- Settles O22: what becoming PRESENT does, and no admission moves presence or window. -/
theorem heardMasterBecomesPresent : Obligations.HeardMasterBecomesPresent := by
  intro s
  refine ⟨heard_supervisor_eq s, fun b => ⟨heard_panel_eq b s, ?_⟩⟩
  have hattended := examineAdmission_attended b { s with
    panels := s.panels.set b { s.panels.get b with present := true, window := 0 }
    pli := { s.pli with rx := .hunt } } b
  rw [heard_panel_eq]
  split
  · simp [masterState]
  · obtain ⟨hpresent, hwindow, -⟩ := hattended
    exact ⟨hpresent.trans (by simp), hwindow.trans (by simp)⟩

/-! ### The idle gap, and frames from nowhere (R171, R173) -/

theorem masterOf_unknown {source : Byte} (h : ∀ m, source ≠ masterAddress m) : masterOf source = none :=
  Option.eq_none_iff_forall_ne_some.mpr fun m hm => h m (masterOf_eq_some hm)

theorem gapRuns_iff (s : State) : gapRuns s = true ↔ Awake s ∧ s.pli.tx = none ∧ assembling s.pli.rx = true := by
  simp [gapRuns, takesFrames_iff, and_assoc]

/-- Settles O20: when the gap limit is timed, and no master has the source. -/
theorem gapExpiryAndUnknownSourceAnswerNothing : Obligations.GapExpiryAndUnknownSourceAnswerNothing := by
  refine fun s => ⟨fun hA htx hrx => ?_, fun hno => ?_, fun source kind payload noise hA hsource => ?_⟩
  · change Host.Outcome.next (if gapRuns s then linkFault (setRx .hunt s) else s) = _
    rw [if_pos ((gapRuns_iff s).mpr ⟨hA, htx, hrx⟩)]
    rfl
  · change Host.Outcome.next (if gapRuns s then linkFault (setRx .hunt s) else s) = _
    rw [if_neg]
    rintro hgap
    obtain ⟨hA, htx, hrx⟩ := (gapRuns_iff s).mp hgap
    rcases hno with h | h | h
    · exact h hA
    · exact h htx
    · simp [hrx] at h
  · change Host.Outcome.next (acceptFrame source kind payload noise s) = _
    rw [acceptFrame, masterOf_unknown hsource]
    simp [(takesFrames_iff s).mpr hA, endFrame]

/-! ### The common checks (R175) -/

/-- Only STEP_APPEND is read as STEP_APPEND. -/
theorem parseRequest_ne_append {k : ReqKind} {payload : List Byte} {bay expected : Byte} {rs : List StepRecord}
    (hk : k ≠ .stepAppend) : parseRequest k payload ≠ some (.stepAppend bay expected rs) := by
  intro h
  cases k with
  | stepAppend => exact hk rfl
  | profileWrite =>
    match payload with
    | [] | [_] | [_, _] | [_, _, _] | [_, _, _, _] | [_, _, _, _, _] | [_, _, _, _, _, _] | [_, _, _, _, _, _, _]
    | [_, _, _, _, _, _, _, _] | [_, _, _, _, _, _, _, _, _] | [_, _, _, _, _, _, _, _, _, _]
    | [_, _, _, _, _, _, _, _, _, _, _] | [_, _, _, _, _, _, _, _, _, _, _, _]
    | [_, _, _, _, _, _, _, _, _, _, _, _, _] | [_, _, _, _, _, _, _, _, _, _, _, _, _, _]
    | _ :: _ :: _ :: _ :: _ :: _ :: _ :: _ :: _ :: _ :: _ :: _ :: _ :: _ :: _ :: _ => cases h
  | _ =>
    match payload with
    | [] | [_] | [_, _] | [_, _, _] | _ :: _ :: _ :: _ :: _ => cases h

theorem parseRequest_lengthOk {k : ReqKind} {payload : List Byte} {r : Request} (h : parseRequest k payload = some r) :
    lengthOk r = true := by
  cases r with
  | stepAppend bay expected rs =>
    by_cases hk : k = .stepAppend
    · subst hk
      match payload, h with
      | bay' :: expected' :: rest, h =>
        change (match parseRecords rest with
          | some rs => if batchOk rs then some (Request.stepAppend bay' expected' rs) else none
          | none => none) = _ at h
        split at h
        · split at h
          · cases h
            assumption
          · cases h
        · cases h
    · exact absurd h (parseRequest_ne_append hk)
  | _ => rfl

section
variable {m : Master} {kind : Byte} {k : Option ReqKind} {r : Option Request} {noise : Bool} {s : State}

theorem acceptFrame_known (m : Master) (kind : Byte) (payload : List Byte) (noise : Bool) (s : State) :
    acceptFrame (masterAddress m) kind payload noise s =
      takeFrame m kind (reqOfCode kind) ((reqOfCode kind).bind fun k => parseRequest k payload) noise s := by
  rw [acceptFrame, masterOf_masterAddress]

theorem takeFrame_answers (hA : Awake s) (hf : masterFitted m s = true) :
    takeFrame m kind k r noise s = answerFrame m kind k r noise (heard m s) := by
  rw [takeFrame, if_pos ((takesFrames_iff s).mpr hA), if_pos hf]

theorem answerFrame_refuses {why : NakReason} (h : commonRefusal m k r s = some why) :
    answerFrame m kind k r noise s = respond m kind noise ⟨.nak why, []⟩ s := by
  unfold answerFrame
  rw [h]
  rfl

theorem answerFrame_performs {x : Request} (h : commonRefusal m k (some x) s = none) :
    answerFrame m kind k (some x) noise s = respond m kind noise (perform m x s).2 (perform m x s).1 := by
  unfold answerFrame
  rw [h]

end

/-- Checks 6 and 7: the bay a request names. -/
def bayRefusal (m : Master) (r : Request) (s : State) : Option NakReason :=
  match bayNamed r with
  | none => none
  | some b => if s.fitted.get b then (if ownBay m b then none else some .notPermitted) else some .noBay

/-- Checks 5 to 7, for a request that the first four let through. -/
theorem commonRefusal_of_read {m : Master} {k : ReqKind} {r : Request} (s : State) (hent : entitled m k = true)
    (hlen : lengthOk r = true) : commonRefusal m (some k) (some r) s =
      if indexOk r then bayRefusal m r s else some .valueBad := by
  change (if entitled m k then
      (if lengthOk r then (if indexOk r then bayRefusal m r s else some .valueBad) else some .lengthBad)
    else some NakReason.notPermitted) = _
  rw [if_pos hent, if_pos hlen]

/-- Settles O21: `commonRefusal`, check by check. -/
theorem commonChecksDecideInOrder : Obligations.CommonChecksDecideInOrder := by
  intro m kind payload noise s hA
  refine ⟨rfl, fun hf => ?_, fun hf => ?_⟩
  · rw [acceptFrame_known, takeFrame, if_pos ((takesFrames_iff s).mpr hA), if_neg (by simp [hf])]
    rfl
  simp only [acceptFrame_known, takeFrame_answers hA hf]
  refine ⟨fun hkind => answerFrame_refuses (by rw [hkind, commonRefusal]), fun k hk => ?_⟩
  rw [hk, Option.bind_some]
  refine ⟨fun hent => answerFrame_refuses (by simp [commonRefusal, hent]), fun hent =>
    ⟨fun hparse => answerFrame_refuses (by simp [commonRefusal, hent, hparse]), fun r hparse => ?_⟩⟩
  rw [hparse]
  have hcheck := commonRefusal_of_read (heard m s) hent (parseRequest_lengthOk hparse)
  refine ⟨fun hindex => answerFrame_refuses (by simp [hcheck, hindex]), fun hindex => ?_⟩
  rw [if_pos hindex] at hcheck
  refine ⟨fun b hb hfit => answerFrame_refuses (by simp [hcheck, bayRefusal, hb, hfit]),
    fun b hb hfit hown => answerFrame_refuses (by simp [hcheck, bayRefusal, hb, hfit, hown]),
    fun hall => answerFrame_performs ?_⟩
  rw [hcheck]
  cases hb : bayNamed r with
  | none => simp [bayRefusal, hb]
  | some b => simp [bayRefusal, hb, hall b hb]

/-! ### Responses (R178, R179, R190) -/

theorem responseChars_bytes (r : Response) :
    (responseChars r).map WireChar.byte = [masterAddress r.dest, 0x40#8, r.kind, byteOf (responsePayload r).length] ++
      responsePayload r ++
      halfBytes (frameCrc (masterAddress r.dest) 0x40#8 r.kind (responsePayload r)) := by
  have hbyte : WireChar.byte ∘ WireChar.mk false = id := rfl
  simp [responseChars, frameChars, ownAddress, hbyte]

theorem responseChars_marks (r : Response) :
    (responseChars r).map WireChar.mark = true :: List.replicate (5 + (responsePayload r).length) false := by
  have hmark : WireChar.mark ∘ WireChar.mk false = fun _ => false := rfl
  have hlen : ([ownAddress, r.kind, byteOf (responsePayload r).length] ++ responsePayload r ++
      halfBytes (frameCrc (masterAddress r.dest) ownAddress r.kind (responsePayload r))).length =
      5 + (responsePayload r).length := by
    simp only [halfBytes, List.length_append, List.length_cons, List.length_nil]
    omega
  rw [responseChars, frameChars, List.map_cons, List.map_map, hmark, List.map_const', hlen]

theorem responsePayload_eq (r : Response) :
    responsePayload r = [statusCode r.status, if r.noise then 1#8 else 0#8] ++ r.payload := by
  cases hn : r.noise <;> simp [responsePayload, hn, flagByte]

/-- Settles O23: the response frame of section 12.1. -/
theorem waitingResponseIsSentWhole : Obligations.WaitingResponseIsSentWhole := by
  refine ⟨fun r s htx => ?_, fun s htx => ?_, fun r => ?_⟩
  · change Host.Outcome.next (sendResponse s) = _
    rw [sendResponse, htx]
  · change Host.Outcome.next (sendResponse s) = _
    rw [sendResponse, htx]
  · rw [← responsePayload_eq]
    exact ⟨responseChars_bytes r, responseChars_marks r⟩

theorem execEchoMismatch_of_sent {n : Nat} {cs : CharSamples} {r : Response} {w : WireChar} {s : State}
    (htx : s.pli.tx = some r) (hw : (responseChars r)[n]? = some w) :
    exec (.echoMismatch n cs) s = .next (if echoDiffers w cs then cutResponse n (responseChars r) s else s) := by
  change execEchoMismatch n cs s = _
  simp only [execEchoMismatch, htx, hw]

/-- Settles O24: what counts as read back wrong. -/
theorem echoMismatchCutsTheResponse : Obligations.EchoMismatchCutsTheResponse := by
  intro n cs r w s htx hw
  rw [execEchoMismatch_of_sent htx hw]
  refine ⟨fun hwrong => ?_, fun x hx hbyte hmark hframing => ?_⟩
  · rw [if_pos]
    · rfl
    · unfold echoDiffers
      split
      next x hx => rcases hwrong x hx with h | h | h <;> simp [h]
      next => rfl
  · have hsame : echoDiffers w cs = false := by
      simp [echoDiffers, hx, hbyte, hmark, hframing, break_has_framing_error hx hframing]
    rw [hsame]
    rfl

theorem takeChar_turnaround {s : State} (x : RxChar) (hA : Awake s) (htx : s.pli.tx ≠ none) :
    takeChar x s = inTurnaround x (assemble x) s := by
  have hsome := Option.isSome_iff_ne_none.mpr htx
  rcases hA with h | h <;> simp [takeChar, h, hsome]

/-- Settles O25: the turnaround, and HUNT after it. -/
theorem turnaroundAddressDiscardsTheResponse : Obligations.TurnaroundAddressDiscardsTheResponse := by
  intro cs x s hA htx hx
  rw [exec_linkCharacter hx, takeChar_turnaround x hA htx]
  refine ⟨fun hmark hframing => ?_, fun hno => ?_⟩
  · rw [inTurnaround, if_pos ((isAddress_iff x).mpr ⟨hmark, hframing⟩)]
    rw [assemble_quietly (rx := openFrame x) (by simp [linkFault, raiseSup, rxMove, hmark, hframing])]
    rfl
  · rw [inTurnaround, if_neg]
    rw [isAddress_iff]
    rintro ⟨hmark, hframing⟩
    rcases hno with h | h <;> simp_all

/-! ### Presence expires (R174) -/

theorem windowRuns_iff {m : Master} {s : State} (hA : Awake s) : windowRuns m s = (masterState m s).present := by
  rcases hA with h | h <;> simp [windowRuns, h]

theorem exec_presenceExpiry_absent {m : Master} {s : State} (hA : Awake s) (h : (masterState m s).present = false) :
    exec (.presenceExpiry m) s = .next s := by
  change Host.Outcome.next (if windowRuns m s then expirePresence m s else s) = _
  rw [windowRuns_iff hA, h, if_neg Bool.false_ne_true]

theorem exec_presenceExpiry_present {m : Master} {s : State} (hA : Awake s) (h : (masterState m s).present = true) :
    exec (.presenceExpiry m) s = .next (expirePresence m s) := by
  change Host.Outcome.next (if windowRuns m s then expirePresence m s else s) = _
  rw [windowRuns_iff hA, h, if_pos rfl]

/-- Settles O26: the loss, and the park it begins. -/
theorem presenceExpiryRaisesMasterLost : Obligations.PresenceExpiryRaisesMasterLost := by
  intro s hA
  refine ⟨fun hp => exec_presenceExpiry_present hA hp, fun hp => exec_presenceExpiry_absent hA hp, fun b =>
    ⟨fun hp => exec_presenceExpiry_absent hA hp, fun hp => ⟨fun hrun => ?_, fun hrun => ?_⟩⟩⟩
  · rw [exec_presenceExpiry_present (m := .panel b) hA hp]
    exact congrArg Host.Outcome.next (enterParking_else b .masterLost _ hrun)
  · have hlost : ∃ u, u = raiseSup .masterLost (setMaster (.panel b)
        { s.panels.get b with present := false, window := windowMs (.panel b) } s) := ⟨_, rfl⟩
    obtain ⟨u, hu⟩ := hlost
    have hbsq : u.bsq = s.bsq := by rw [hu]; rfl
    have hpark := enterParking_bsq b .masterLost u (by rw [hbsq]; exact hrun)
    have hframe := enterParking_frame b .masterLost u
    have hpresent := (enterParking_attended b u .masterLost b).1
    refine ⟨enterParking b .masterLost u, by rw [exec_presenceExpiry_present (m := .panel b) hA hp, hu]; rfl, ?_⟩
    rw [hframe.supervisor, hpark, (enterParking_rings b u _).1, hframe.pts, hframe.snu, hframe.pli, hframe.moc,
      hpresent, hbsq, hu]
    exact ⟨by simp [setMaster], rfl, rfl, rfl, rfl, rfl, rfl, rfl, rfl, rfl, rfl⟩

end Sys2Proof.Machine
end

section
/-! The reading requests and the layout of what they carry (R146, R151, R155, R156, R159, R177, section 12). -/

namespace Sys2Proof.Machine

/-! ### The records of an OUTCOME_READ (R146) -/

theorem fitRecords_prefix (most room : Nat) (rs : List Outcome) : fitRecords most room rs <+: rs := by
  induction most generalizing room rs with
  | zero => exact List.nil_prefix
  | succ most ih =>
    cases rs with
    | nil => exact List.nil_prefix
    | cons o rest =>
      rw [fitRecords]
      split
      · exact (List.prefix_cons_inj o).mpr (ih _ rest)
      · exact List.nil_prefix

theorem fitRecords_length (most room : Nat) (rs : List Outcome) : (fitRecords most room rs).length ≤ most := by
  induction most generalizing room rs with
  | zero => exact Nat.zero_le _
  | succ most ih =>
    cases rs with
    | nil => exact Nat.zero_le _
    | cons o rest =>
      rw [fitRecords]
      split
      · exact Nat.succ_le_succ (ih _ rest)
      · exact Nat.zero_le _

theorem fitRecords_bytes (most room : Nat) (rs : List Outcome) :
    ((fitRecords most room rs).flatMap outcomeBytes).length ≤ room := by
  induction most generalizing room rs with
  | zero => exact Nat.zero_le _
  | succ most ih =>
    cases rs with
    | nil => exact Nat.zero_le _
    | cons o rest =>
      rw [fitRecords]
      split
      next hfits =>
        rw [List.flatMap_cons, List.length_append]
        have hrest := ih (room - (outcomeBytes o).length) rest
        omega
      next => exact Nat.zero_le _

/-- A record left out: as many are carried as may be, or the next one does not fit. -/
theorem fitRecords_leaves_out {most room : Nat} {rs rest : List Outcome} {o : Outcome}
    (h : rs = fitRecords most room rs ++ o :: rest) : (fitRecords most room rs).length = most ∨
      room < ((fitRecords most room rs).flatMap outcomeBytes).length + (outcomeBytes o).length := by
  induction most generalizing room rs with
  | zero => exact .inl rfl
  | succ most ih =>
    cases rs with
    | nil => simp at h
    | cons x xs =>
      rw [fitRecords] at h ⊢
      split at h
      next hfits =>
        rw [if_pos hfits]
        simp only [List.cons_append, List.cons.injEq, true_and] at h
        rcases ih h with hmost | hroom
        · exact .inl (congrArg (· + 1) hmost)
        · refine .inr ?_
          rw [List.flatMap_cons, List.length_append]
          omega
      next hlong =>
        simp only [List.nil_append, List.cons.injEq] at h
        rw [if_neg hlong, ← h.1]
        exact .inr (by simpa using hlong)

/-- Settles O29: `fitRecords`, record by record. -/
theorem outcomeReadCarriesOldestRecordsWhole : Obligations.OutcomeReadCarriesOldestRecordsWhole := fun rs =>
  ⟨fitRecords_prefix 4 42 rs, fitRecords_length 4 42 rs, fitRecords_bytes 4 42 rs, fun _ _ h => fitRecords_leaves_out h⟩

/-! ### The six reading requests -/

section
variable {m : Master} {b : Bay} {s : State}

theorem takeRequest_of_master {r : Request} (noise : Bool) (hA : Awake s) (hf : masterFitted m s = true)
    (hent : entitled m (reqKind r) = true) (hlen : lengthOk r = true) (hidx : indexOk r = true)
    (hbay : bayNamed r = none) : takeRequest m noise r s =
      respond m (reqCode (reqKind r)) noise (perform m r (heard m s)).2 (perform m r (heard m s)).1 :=
  takeRequest_passes noise hA ⟨hf, hent, hlen, hidx, fun c hc => by simp [hbay] at hc⟩

theorem takeRequest_of_bay {r : Request} (noise : Bool) (hA : Awake s) (hf : masterFitted m s = true)
    (hfit : s.fitted.get b = true) (hown : ownBay m b = true) (hent : entitled m (reqKind r) = true)
    (hlen : lengthOk r = true) (hidx : indexOk r = true) (hbay : bayNamed r = some b) : takeRequest m noise r s =
      respond m (reqCode (reqKind r)) noise (perform m r (heard m s)).2 (perform m r (heard m s)).1 :=
  takeRequest_passes noise hA ⟨hf, hent, hlen, hidx, fun c hc => by
    obtain rfl : b = c := by simpa [hbay] using hc
    exact ⟨hfit, hown⟩⟩

theorem forBay_bayByte (f : Bay → State → State × Reply) : forBay (bayByte b) f s = f b s := by simp [forBay]

end

/-- Settles O27: each request passes the common checks, and its owner reads. -/
theorem readingRequestsAnswerAndChangeNothing : Obligations.ReadingRequestsAnswerAndChangeNothing := by
  intro m noise s hA hf
  have htake {r : Request} := takeRequest_of_master (r := r) noise hA hf
  have hbay {b : Bay} {r : Request} := takeRequest_of_bay (b := b) (r := r) noise hA hf
  refine ⟨?ping, ?events, fun part hpart => ?plant, fun b part hfit hown hpart => ?bay, fun b hfit hown => ?outcomes,
    fun slot hm hslot => ?profile⟩
  case ping =>
    refine (congrArg Host.Outcome.next (htake (by cases m <;> rfl) rfl rfl rfl)).trans ?_
    simp only [perform, ownerPing, heard_moc, fittedByte, heard_fitted]
    rfl
  case events => exact congrArg Host.Outcome.next (htake (by cases m <;> rfl) rfl rfl rfl)
  case plant =>
    exact congrArg Host.Outcome.next (htake (by cases m <;> rfl) rfl (decide_eq_true hpart) rfl)
  case bay =>
    have hrange : part.toNat ≤ 1 := by rcases hpart with rfl | rfl <;> decide
    refine (congrArg Host.Outcome.next (hbay (r := .statusBay (bayByte b) part) hfit hown (by cases m <;> rfl) rfl
      (by simp [indexOk, hrange]) (bayOf_bayByte b))).trans ?_
    simp only [perform, forBay_bayByte]
    rfl
  case outcomes =>
    refine (congrArg Host.Outcome.next (hbay (r := .outcomeRead (bayByte b)) hfit hown (by cases m <;> rfl) rfl
      (by simp [indexOk]) (bayOf_bayByte b))).trans ?_
    simp only [perform, forBay_bayByte]
    rfl
  case profile =>
    subst hm
    exact congrArg Host.Outcome.next (htake rfl rfl (decide_eq_true hslot) rfl)

/-! ### No payload is longer than 46 bytes -/

section
variable (s : State) (b : Bay)

theorem bytes2_length (n : Nat) : (bytes2 n).length = 2 := rfl

theorem bytes2Or_length (n : Option Nat) : (bytes2Or n).length = 2 := by cases n <;> rfl

theorem bytes3Or_length (n : Option Nat) : (bytes3Or n).length = 3 := by cases n <;> rfl

theorem channelBytes_length (c : Channel) : (channelBytes c).length = 4 := by simp [channelBytes, bytes2Or_length]

theorem phaseTimerBytes_length (p : Pts) : (phaseTimerBytes p).length = 2 := bytes2Or_length _

theorem statusBayBytes_length (part : Byte) : (statusBayBytes b part s).length ≤ 46 := by
  unfold statusBayBytes
  split
  · simp [bayPart0, bytes2Or_length, bytes3Or_length]
  · simp [bayPart1, bytes2_length, channelBytes_length]

theorem statusPlantBytes_length (part : Byte) : (statusPlantBytes part s).length ≤ 46 := by
  unfold statusPlantBytes
  split
  · simp [plantPart0, phaseTimerBytes_length]
  · simp [plantPart1, bytes2_length]
  · simp [plantPart2, bytes2_length, PerBay.toList, List.flatMap_cons]
  · simp [plantPart3, bytes2_length, channelBytes_length, PerBay.toList, bytes4, bytes3]

theorem outcomePayload_length : (outcomePayload b s).length ≤ 46 := by
  have hbytes := fitRecords_bytes 4 42 (s.oau.get b).records
  simp only [outcomePayload, List.length_append, List.length_cons, List.length_nil]
  omega

theorem commitBytes_length (p : Pts) : (commitBytes p).length = 5 := by
  simp [commitBytes, phaseTimerBytes_length]

theorem profilePayload_length (slot : Byte) : (profilePayload slot s).length = 15 := by
  have hprofile (p : Option Profile) : (profileBytes p).length = 9 := by cases p <;> simp [profileBytes, bytes2_length]
  simp [profilePayload, hprofile, commitBytes_length]

/-- What `forBay` answers fits where each bay's answer does. -/
theorem forBay_fits {f : Bay → State → State × Reply} (bay : Byte) (h : ∀ b, (f b s).2.payload.length ≤ 46) :
    (forBay bay f s).2.payload.length ≤ 46 := by
  unfold forBay
  split
  · exact h _
  · exact Nat.zero_le _

theorem ownerStepAppend_fits (expected : Byte) (records : List StepRecord) :
    (ownerStepAppend b expected records s).2.payload.length ≤ 46 := by
  unfold ownerStepAppend
  dsimp only
  repeat' split
  all_goals simp [nakWith, ackWith]

theorem ownerOutcomeFree_fits (freed : Byte) : (ownerOutcomeFree b freed s).2.payload.length ≤ 46 := by
  unfold ownerOutcomeFree
  dsimp only
  repeat' split
  all_goals simp [nakWith, ackWith]

theorem programAnswer_fits (number : Byte) : (ownerProgramAbort b number s).2.payload.length ≤ 46 ∧
    (ownerBayPause b number s).2.payload.length ≤ 46 ∧ (ownerBayResume b number s).2.payload.length ≤ 46 := by
  refine ⟨?_, ?_, ?_⟩
  · unfold ownerProgramAbort
    split <;> simp [nakWith, ackWith, bayAnswer]
  · unfold ownerBayPause
    split <;> simp [nakWith, ackWith, bayAnswer]
  · unfold ownerBayResume
    split <;> simp [nakWith, ackWith, bayAnswer]

theorem ownerPlantMode_fits (mode : Byte) : (ownerPlantMode mode s).2.payload.length ≤ 46 := by
  unfold ownerPlantMode ownerPlantModeRun ownerPlantModeStandby ownerPlantModeSleep
  dsimp only
  repeat' split
  all_goals simp [nakWith, ackWith]

theorem outputAnswer_length (o : OutputId) : (outputAnswer o s).length = 2 := by cases o <;> rfl

theorem ownerOutputService_fits (index mode value : Byte) :
    (ownerOutputService index mode value s).2.payload.length ≤ 46 := by
  unfold ownerOutputService ownerService
  dsimp only
  repeat' split
  all_goals simp [nakWith, ackWith, outputAnswer_length]

end

theorem perform_fits (m : Master) (r : Request) (s : State) : (perform m r s).2.payload.length ≤ 46 := by
  have hprogram (n : Byte) (b : Bay) := programAnswer_fits s b n
  cases r with
  | ping | eventsRead | eventsClear | eventsMask | budgetSet | warmRestart =>
    change List.length _ ≤ 46
    simp [perform, ownerPing, ownerEventsRead, ownerEventsClear, ownerEventsMask, ownerBudgetSet, ownerWarmRestart, ackWith,
      halfBytes, bytes2_length]
  | statusPlant part => exact statusPlantBytes_length s part
  | statusBay bay part => exact forBay_fits s bay fun b => statusBayBytes_length s b part
  | stepAppend bay p rs => exact forBay_fits s bay fun b => ownerStepAppend_fits s b p rs
  | queueCancel bay =>
    refine forBay_fits s bay fun b => ?_
    unfold ownerQueueCancel
    dsimp only
    repeat' split
    all_goals simp [nakWith, ackWith]
  | outcomeRead bay => exact forBay_fits s bay fun b => outcomePayload_length s b
  | outcomeFree bay f => exact forBay_fits s bay fun b => ownerOutcomeFree_fits s b f
  | bayPause bay n => exact forBay_fits s bay fun b => (hprogram n b).2.1
  | bayResume bay n => exact forBay_fits s bay fun b => (hprogram n b).2.2
  | programAbort bay n => exact forBay_fits s bay fun b => (hprogram n b).1
  | profileRead slot => exact (profilePayload_length s slot).trans_le (by decide)
  | profileWrite slot st v =>
    change (ownerProfileWrite slot st v s).2.payload.length ≤ 46
    unfold ownerProfileWrite
    dsimp only
    repeat' split
    all_goals simp [nakWith, ackWith, profilePayload_length]
  | profileCommit =>
    change (ownerProfileCommit s).2.payload.length ≤ 46
    unfold ownerProfileCommit
    split <;> simp [nakWith, ackWith, commitBytes_length]
  | plantMode mode => exact ownerPlantMode_fits s mode
  | outputService o mode v => exact ownerOutputService_fits s o mode v
  | bayClear bay =>
    refine forBay_fits s bay fun b => ?_
    unfold ownerBayClear
    split <;> simp [nakWith, ackWith]
  | boilerClear =>
    change (ownerBoilerClear s).2.payload.length ≤ 46
    unfold ownerBoilerClear
    split <;> simp [nakWith, ackWith]

/-! ### The layouts of section 12.3 -/

/-- A list of bits as a number, bit 0 first. -/
def bitsNat : List Bool → Nat
  | [] => 0
  | b :: bs => b.toNat + 2 * bitsNat bs

theorem flagByte_eq_bitsNat (bs : List Bool) : flagByte bs = BitVec.ofNat 8 (bitsNat bs) := by
  induction bs with
  | nil => rfl
  | cons b bs ih =>
    rw [flagByte, ih, bitsNat]
    refine BitVec.eq_of_getLsbD_eq fun i hi => ?_
    have hbit : b.toNat + 2 * bitsNat bs = Nat.bit b (bitsNat bs) := by cases b <;> simp [Nat.bit, Nat.add_comm]
    rw [hbit, BitVec.getLsbD_or, BitVec.getLsbD_shiftLeft, BitVec.getLsbD_ofNat, BitVec.getLsbD_ofNat]
    cases i with
    | zero => cases b <;> simp
    | succ i =>
      have hlt : i < 8 := by omega
      have hone : (if b then 1#8 else 0#8).getLsbD (i + 1) = false := by cases b <;> simp
      rw [Nat.testBit_bit_succ, hone]
      simp [hi, hlt]

/-- The flag byte as the weights of its bits summed one after the other. -/
theorem zipIdx_foldl_bits (bs : List Bool) (acc k : Nat) :
    (bs.zipIdx k).foldl (fun n x => if x.1 then n + 2 ^ x.2 else n) acc = acc + 2 ^ k * bitsNat bs := by
  induction bs generalizing acc k with
  | nil => simp [bitsNat]
  | cons b bs ih =>
    rw [List.zipIdx_cons, List.foldl_cons, ih, bitsNat, Nat.pow_succ]
    cases b <;> simp [Nat.mul_add, Nat.mul_assoc, Nat.add_assoc]

theorem flagByte_eq_sum (bs : List Bool) :
    flagByte bs = BitVec.ofNat 8 (bs.zipIdx.foldl (fun n x => if x.1 then n + 2 ^ x.2 else n) 0) := by
  rw [flagByte_eq_bitsNat, zipIdx_foldl_bits]
  simp

theorem channelValue_eq (c : Channel) :
    channelValue c = if c.state = .valid ∨ c.state = .stale then c.last else none := by
  cases hs : c.state <;> simp [channelValue, hs]

theorem appliedContext_eq (q : Bsq) : appliedContext q =
    if q.state = .waiting ∨ q.state = .running ∨ q.state = .held ∨ q.state = .parking then q.context else none := by
  cases hs : q.state <;> simp [appliedContext, hs]

theorem bytes4_eq (n : Nat) : bytes4 n = bytes2 (n / 65536) ++ bytes2 n := by
  simp [bytes4, bytes3, bytes2, Nat.div_div_eq_div_mul]

/-- Settles O28: the lengths, and the layouts field by field. -/
theorem ownerPayloadsFitTheFrame : Obligations.OwnerPayloadsFitTheFrame := by
  refine ⟨perform_fits, fun b s => ?_⟩
  intro bits one two four oneOr twoOr threeOr all channel cabinet g q x r o a f
  have hbits (xs : List Bool) : one (bits xs) = [flagByte xs] := congrArg (fun y => [y]) (flagByte_eq_sum xs).symm
  have honeOr (n : Option Nat) : oneOr n = [byteOr n] := by cases n <;> rfl
  have htwoOr (n : Option Nat) : twoOr n = bytes2Or n := by cases n <;> rfl
  have hthreeOr (n : Option Nat) : threeOr n = bytes3Or n := by cases n <;> rfl
  have hfour (n : Nat) : four n = bytes4 n := (bytes4_eq n).symm
  have hchannel (c : Channel) : channel c = channelBytes c := by
    simp only [channel, channelBytes, channelValue_eq, honeOr, htwoOr]
    rfl
  have hcabinet (y : SwitchFilter → Bool) : cabinet y = [switchByte y s] := hbits _
  have hx : x = appliedContext q := (appliedContext_eq q).symm
  refine ⟨?_, ?_, ?_, ?_, ?_, ?_⟩
  · simp only [hbits, hcabinet, htwoOr, List.append_assoc]
    rfl
  · simp only [hbits]
    rfl
  · rfl
  · simp only [hfour, hchannel]
    rfl
  · have hpart : statusBayBytes b 0x00#8 s = bayByte b :: 0x00#8 :: bayPart0 b s := rfl
    simp only [hpart, bayPart0, hbits, honeOr, htwoOr, hthreeOr, hx, q, List.append_assoc]
    by_cases hpark : (s.bsq.get b).state = .parking
    · simp only [hpark, if_true]
      rfl
    · simp only [hpark, if_false]
      cases (appliedContext (s.bsq.get b)).bind Context.pendingResult <;> rfl
  · have hvalve : one (if s.blc.valves.get b then 1 else 0) = [if s.blc.valves.get b then 1#8 else 0#8] := by
      split <;> rfl
    simp only [hbits, hchannel, hvalve, List.append_assoc]
    rfl

end Sys2Proof.Machine
end

section
/-! The requests on the running program, and the parks that abort and stall begin (R54, R55, R62 to R64, R68). -/

namespace Sys2Proof.Machine

/-! ### Bits of a pending set -/

theorem or_and_right_self {w : Nat} (x m : BitVec w) : (x ||| m) &&& m = m := by
  refine BitVec.eq_of_getLsbD_eq fun i _ => ?_
  simp only [BitVec.getLsbD_and, BitVec.getLsbD_or]
  cases x.getLsbD i <;> simp

/-! ### A new hold set of a started step (R40, R46, R52, R54, R57) -/

/-- The sequencer of a started step with another hold set: the step runs exactly when the set is empty. -/
def heldUnder (h : HoldSet) (x : Context) (q : Bsq) : Bsq :=
  { q with
    holds := h
    state := if h = HoldSet.empty then .running else .held
    context := some { x with
      satisfied := if q.state = .running ∧ h ≠ HoldSet.empty then 0 else x.satisfied
      stallTimer := if q.state = .held ∧ h = HoldSet.empty then 0 else x.stallTimer } }

theorem heldUnder_self {q : Bsq} {x : Context} (hx : q.context = some x) (hs : q.state = .running ∨ q.state = .held)
    (hlaw : q.state = .held ↔ q.holds ≠ HoldSet.empty) : heldUnder q.holds x q = q := by
  obtain ⟨state, context, holds, parkTimer, parkMinTaken, faultAfterPark, admission⟩ := q
  dsimp only at hx hs hlaw
  subst hx
  rcases hs with rfl | rfl
  · have hempty : holds = HoldSet.empty := by
      by_contra hne
      cases hlaw.mpr hne
    simp [heldUnder, hempty]
  · simp [heldUnder, hlaw.mp rfl]

theorem changeHolds_started {b : Bay} {s : State} {x : Context} (h : HoldSet)
    (hx : (s.bsq.get b).context = some x) (hs : (s.bsq.get b).state = .running ∨ (s.bsq.get b).state = .held)
    (hlaw : (s.bsq.get b).state = .held ↔ (s.bsq.get b).holds ≠ HoldSet.empty) :
    (changeHolds b h s).bsq.get b = heldUnder h x (s.bsq.get b) := by
  have hnew := changeHolds_of_ne (h := h) hs hx
  have hform := changeHolds_form b h s
  generalize changeHolds b h s = t at hform hnew ⊢
  cases hform with
  | same =>
    subst hnew
    exact (heldUnder_self hx hs hlaw).symm
  | kept hkept =>
    rcases hkept with ⟨hs, he⟩ | ⟨hs, he⟩ <;> simp [heldUnder, hs, he, ← hx]
  | held hx' hs' he =>
    obtain rfl := Option.some.inj (hx'.symm.trans hx)
    simp [heldUnder, hs', he]
  | released hx' hs' he =>
    obtain rfl := Option.some.inj (hx'.symm.trans hx)
    simp [heldUnder, hs', he]

theorem heldUnder_state (h : HoldSet) (x : Context) (q : Bsq) :
    (heldUnder h x q).state = .running ∨ (heldUnder h x q).state = .held := by
  by_cases he : h = HoldSet.empty <;> simp [heldUnder, he]

theorem heldUnder_running (h : HoldSet) (x : Context) (q : Bsq) :
    (heldUnder h x q).state = .running ↔ h = HoldSet.empty := by
  by_cases he : h = HoldSet.empty <;> simp [heldUnder, he]

/-! ### The start of a park (R68) -/

/-- The state of a bay sent to PARKING, before its heater and outputs follow. -/
def parkBegun (b : Bay) (result : ParkResult) (s : State) : State :=
  raisePanel b .stateChange <|
    setOutcomes b { s.oau.get b with promise := false } <|
      setBsq b
        { s.bsq.get b with
          state := .parking, holds := HoldSet.empty, parkTimer := 0, parkMinTaken := false
          faultAfterPark := (s.bsq.get b).faultAfterPark || decide (result = .faulted)
          context := (s.bsq.get b).context.map fun x => { x with pendingResult := some result } }
        (emptyHolds b s)

section
variable {b : Bay} {s : State} (result : ParkResult)

theorem enterParking_eq (h : inProgress (s.bsq.get b) = true) :
    enterParking b result s = driveBay b (withdrawAux b (parkBegun b result s)) := by
  have hbsq : (emptyHolds b s).bsq.get b = { s.bsq.get b with holds := HoldSet.empty } := by simp
  have hoau : (emptyHolds b s).oau.get b = s.oau.get b := by
    unfold emptyHolds
    split <;> simp
  unfold enterParking
  rw [if_pos h]
  dsimp only [parkBegun]
  rw [hbsq]
  simp only [setBsq_oau, hoau]

theorem parkBegun_bsq : (parkBegun b result s).bsq.get b =
    { s.bsq.get b with
      state := .parking, holds := HoldSet.empty, parkTimer := 0, parkMinTaken := false
      faultAfterPark := (s.bsq.get b).faultAfterPark || decide (result = .faulted)
      context := (s.bsq.get b).context.map fun x => { x with pendingResult := some result } } := by
  simp [parkBegun]

theorem parkBegun_alc : (parkBegun b result s).alc = s.alc := by simp [parkBegun]

/-- The events of a park's start: HOLD_CHANGE where the step was held, and STATE_CHANGE. -/
theorem parkBegun_pendingSet (hf : s.fitted.get b = true) : ((parkBegun b result s).panels.get b).pending =
    (s.panels.get b).pending ||| if (s.bsq.get b).holds = HoldSet.empty then 0x0002#16 else 0x0006#16 := by
  have hfit : (emptyHolds b s).fitted.get b = true := by rw [(emptyHolds_frame b s).fitted, hf]
  rw [parkBegun, raisePanel_pendingSet _ (by simpa using hfit)]
  by_cases he : (s.bsq.get b).holds = HoldSet.empty
  · simp [emptyHolds, he, panelBit]
  · simp only [setOutcomes_panels, setBsq_panels, emptyHolds, if_neg he]
    rw [raisePanel_pendingSet _ (by simpa using hf), BitVec.or_assoc]
    rfl

/-- What the start of a park does to the bay's outputs and grant (R68, R94, R118). -/
structure ParkDriven (b : Bay) (s t : State) : Prop where
  heat : HeatOff b t
  demand : (t.alc.bays.get b).demand = 0
  valve : t.blc.valves.get b = false
  fan : (t.alc.bays.get b).fan = driveServiced parkFan (s.alc.bays.get b).fan
  damper : (t.alc.bays.get b).damper = driveServiced .opened (s.alc.bays.get b).damper
  osc : (t.alc.bays.get b).osc = driveServiced 0 (s.alc.bays.get b).osc

theorem parked_driven {u : State} (hstate : (u.bsq.get b).state = .parking) :
    ParkDriven b u (driveBay b (withdrawAux b u)) where
  heat := driveBay_heatOff (withdrawAux_heatOff b u)
  demand := by
    rw [(driveBay_driven b _).demand]
    exact auxDemand_of_notInProgress (by simp [inProgress, hstate])
  valve := by
    rw [(driveBay_driven b _).valve]
    simp [valveOpen, runningCopy, hstate, copyIs]
  fan := by simp [driveBay_outputs, withdrawAux_outputs, autoFan, hstate]
  damper := by simp [driveBay_outputs, withdrawAux_outputs, autoDamper, hstate]
  osc := by simp [driveBay_outputs, withdrawAux_outputs, autoOsc, hstate]

theorem enterParking_driven (h : inProgress (s.bsq.get b) = true) : ParkDriven b s (enterParking b result s) := by
  have hstate : ((parkBegun b result s).bsq.get b).state = .parking := by rw [parkBegun_bsq]
  have halc : (parkBegun b result s).alc.bays.get b = s.alc.bays.get b := by rw [parkBegun_alc]
  have hdriven := parked_driven hstate
  rw [enterParking_eq result h]
  generalize parkBegun b result s = u at halc hdriven
  exact ⟨hdriven.heat, hdriven.demand, hdriven.valve, halc ▸ hdriven.fan, halc ▸ hdriven.damper, halc ▸ hdriven.osc⟩

theorem enterParking_pendingSet (h : inProgress (s.bsq.get b) = true) (hf : s.fitted.get b = true) :
    ((enterParking b result s).panels.get b).pending =
      (s.panels.get b).pending ||| if (s.bsq.get b).holds = HoldSet.empty then 0x0002#16 else 0x0006#16 := by
  rw [enterParking_eq result h, driveBay_panels, withdrawAux_panels]
  exact parkBegun_pendingSet result hf

end

theorem stateChange_pending {x : Half} {p : Prop} [Decidable p] :
    (x ||| if p then 0x0002#16 else 0x0006#16) &&& 0x0002#16 ≠ 0#16 := by
  split
  · rw [or_and_right_self]
    decide
  · rw [show (0x0006#16 : Half) = 0x0004#16 ||| 0x0002#16 from rfl, ← BitVec.or_assoc, or_and_right_self]
    decide

/-! ### The stall (R54, R55) -/

theorem stallCounts_iff (q : Bsq) : stallCounts q = true ↔ q.state = .held ∧ hasPlantReason q.holds = true := by
  simp [stallCounts]

/-- Settles O40: the stall timer's count is set, and the bay enters PARKING. -/
theorem stallParksTheHeldProgram : Obligations.StallParksTheHeldProgram := by
  refine fun b s => ⟨fun hno => ?_, fun x hstate hplant hx => ?_⟩
  · change Host.Outcome.next (if stallCounts (s.bsq.get b) then expireStall b s else s) = _
    rw [if_neg]
    rw [stallCounts_iff]
    rintro ⟨hstate, hplant⟩
    rcases hno with h | h
    · exact h hstate
    · simp [hplant] at h
  have hcounts := (stallCounts_iff _).mpr ⟨hstate, hplant⟩
  have hcounted : ∃ u, u = setContext b (some { x with stallTimer := stallMs }) s := ⟨_, rfl⟩
  obtain ⟨u, hu⟩ := hcounted
  have hbsq : u.bsq.get b = { s.bsq.get b with context := some { x with stallTimer := 900000 } } := by
    rw [hu]
    simp [setContext, stallMs]
  have hprogress : inProgress (u.bsq.get b) = true := by simp [hbsq, inProgress, hstate]
  have hexec : exec (.stall b) s = .next (enterParking b .stalled u) := by
    change Host.Outcome.next (if stallCounts (s.bsq.get b) then expireStall b s else s) = _
    rw [if_pos hcounts, hu]
    simp only [expireStall, hx]
  have hframe := enterParking_frame b .stalled u
  obtain ⟨hsrs, hoau⟩ := enterParking_rings b u .stalled
  refine ⟨_, hexec, ?_, ?_, (enterParking_driven .stalled hprogress).heat.1, fun hf => ?_, ?_, ?_, ?_, ?_, ?_, ?_,
    fun d hd => ⟨?_, ?_⟩⟩
  · rw [enterParking_bsq b .stalled u hprogress, hbsq]
    simp
  · rw [hoau, if_pos hprogress, hu]
    rfl
  · rw [enterParking_pendingSet .stalled hprogress (by rw [hu]; exact hf)]
    have hheld : (u.bsq.get b).holds ≠ HoldSet.empty := by
      rw [hbsq]
      rintro (he : (s.bsq.get b).holds = HoldSet.empty)
      simp [he, hasPlantReason, HoldSet.empty] at hplant
    rw [if_neg hheld, hu]
    rfl
  · rw [hsrs, hu]
    rfl
  · rw [hframe.snu, hu]
    rfl
  · rw [hframe.pts, hu]
    rfl
  · rw [hframe.moc, hu]
    rfl
  · rw [hframe.pli, hu]
    rfl
  · rw [hframe.supervisor, hu]
    rfl
  · rw [hframe.bsq d hd, hu]
    exact PerBay.get_set_other _ _ hd
  · rw [hframe.panels d hd, hu]
    rfl

/-! ### The three requests (R62, R64) -/

section
variable {b : Bay} {s : State} {n : Byte}

theorem exec_bayPause_panel (noise : Bool) (hA : Awake s) (hf : s.fitted.get b = true) :
    exec (.bayPause (.panel b) noise (bayByte b) n) s =
      .next (respond (.panel b) 0x0B#8 noise (ownerBayPause b n (heard (.panel b) s)).2
        (ownerBayPause b n (heard (.panel b) s)).1) := by
  refine (congrArg Host.Outcome.next (takeRequest_of_bay (m := .panel b) (r := .bayPause (bayByte b) n) noise hA hf hf
    (by simp [ownBay]) rfl rfl (by simp [indexOk]) (bayOf_bayByte b))).trans ?_
  simp only [perform, forBay_bayByte]
  rfl

theorem exec_bayResume_panel (noise : Bool) (hA : Awake s) (hf : s.fitted.get b = true) :
    exec (.bayResume (.panel b) noise (bayByte b) n) s =
      .next (respond (.panel b) 0x0C#8 noise (ownerBayResume b n (heard (.panel b) s)).2
        (ownerBayResume b n (heard (.panel b) s)).1) := by
  refine (congrArg Host.Outcome.next (takeRequest_of_bay (m := .panel b) (r := .bayResume (bayByte b) n) noise hA hf hf
    (by simp [ownBay]) rfl rfl (by simp [indexOk]) (bayOf_bayByte b))).trans ?_
  simp only [perform, forBay_bayByte]
  rfl

theorem exec_programAbort_own {m : Master} (noise : Bool) (hA : Awake s) (hf : s.fitted.get b = true)
    (hm : m = .supervisor ∨ m = .panel b) :
    exec (.programAbort m noise (bayByte b) n) s =
      .next (respond m 0x0D#8 noise (ownerProgramAbort b n (heard m s)).2 (ownerProgramAbort b n (heard m s)).1) := by
  have hmaster : masterFitted m s = true ∧ ownBay m b = true ∧ entitled m .programAbort = true := by
    rcases hm with rfl | rfl
    · exact ⟨rfl, rfl, rfl⟩
    · exact ⟨hf, by simp [ownBay], rfl⟩
  refine (congrArg Host.Outcome.next (takeRequest_of_bay (r := .programAbort (bayByte b) n) noise hA hmaster.1 hf
    hmaster.2.1 hmaster.2.2 rfl (by simp [indexOk]) (bayOf_bayByte b))).trans ?_
  simp only [perform, forBay_bayByte]
  rfl

theorem programMatch_acts {q : Bsq} (hn : q.admission = n) (h : inProgress q = true) : programMatch q n = .acts := by
  rw [programMatch, if_pos hn, if_pos h]

theorem programMatch_parking {q : Bsq} (hn : q.admission = n) (hs : q.state = .parking) (hx : q.context ≠ none) :
    programMatch q n = .parking := by
  simp [programMatch, hn, inProgress, hs, Option.isSome_iff_ne_none, hx]

theorem programMatch_refused {q : Bsq} (h : q.admission ≠ n ∨ q.state = .idle ∨ q.state = .faulted ∨
    (q.state = .parking ∧ q.context = none)) : programMatch q n = .refused := by
  unfold programMatch
  rcases h with h | h | h | ⟨h, hx⟩
  · rw [if_neg h]
  · simp [inProgress, h]
  · simp [inProgress, h]
  · simp [inProgress, h, hx]

/-- The three owners' answers where they act on nothing. -/
theorem programOwners_refuse (h : programMatch (s.bsq.get b) n = .refused) :
    ownerBayPause b n s = (s, nakWith .badState (bayAnswer b s)) ∧
    ownerBayResume b n s = (s, nakWith .badState (bayAnswer b s)) ∧
    ownerProgramAbort b n s = (s, nakWith .badState (bayAnswer b s)) := by
  simp [ownerBayPause, ownerBayResume, ownerProgramAbort, h]

theorem programOwners_parking (h : programMatch (s.bsq.get b) n = .parking) :
    ownerBayPause b n s = (s, ackWith (bayAnswer b s)) ∧
    ownerBayResume b n s = (s, ackWith (bayAnswer b s)) ∧
    ownerProgramAbort b n s = (s, ackWith (bayAnswer b s)) := by
  simp [ownerBayPause, ownerBayResume, ownerProgramAbort, h]

end

/-- Settles O36: which programs a request does not match. -/
theorem requestsOnNoProgramAreRefused : Obligations.RequestsOnNoProgramAreRefused := by
  intro b noise n s hA hf h q all
  have hanswers {y : Reply} (hpause : ownerBayPause b n h = (h, y)) (hresume : ownerBayResume b n h = (h, y))
      (habort : ownerProgramAbort b n h = (h, y)) (hpay : y.payload = bayAnswer b h) : all y.status := by
    refine ⟨(exec_bayPause_panel noise hA hf).trans ?_, (exec_bayResume_panel noise hA hf).trans ?_,
      (exec_programAbort_own noise hA hf (.inr rfl)).trans ?_⟩
    · rw [hpause, ← bayAnswer, ← hpay]
    · rw [hresume, ← bayAnswer, ← hpay]
    · rw [habort, ← bayAnswer, ← hpay]
  have hrefused (hno : programMatch q n = .refused) : all (.nak .badState) := by
    obtain ⟨hpause, hresume, habort⟩ := programOwners_refuse hno
    exact hanswers hpause hresume habort rfl
  refine ⟨fun hn => hrefused (programMatch_refused (.inl hn)), fun hs => hrefused (programMatch_refused (.inr ?_)),
    fun hs hx => hrefused (programMatch_refused (.inr (.inr (.inr ⟨hs, hx⟩)))), fun hs hx hn => ?_⟩
  · exact hs.imp_right .inl
  · obtain ⟨hpause, hresume, habort⟩ := programOwners_parking (programMatch_parking hn hs hx)
    exact hanswers hpause hresume habort rfl

/-- Settles O37: the owner sends the bay to PARKING. -/
theorem abortParksTheNamedProgram : Obligations.AbortParksTheNamedProgram := by
  intro m b noise n s hA hf hm h q hprogress hn
  have hbsq := enterParking_bsq b .aborted h hprogress
  have howner : ownerProgramAbort b n h = (enterParking b .aborted h, ackWith [0x05#8, n]) := by
    simp only [ownerProgramAbort, show programMatch (h.bsq.get b) n = .acts from programMatch_acts hn hprogress,
      bayAnswer, hbsq]
    rw [show (h.bsq.get b).admission = n from hn]
    rfl
  have hframe := enterParking_frame b .aborted h
  obtain ⟨hsrs, hoau⟩ := enterParking_rings b h .aborted
  obtain ⟨hheat, hdemand, hvalve, hfan, hdamper, -⟩ := enterParking_driven (b := b) (s := h) .aborted hprogress
  have hfit : h.fitted.get b = true := by rw [heard_fitted, hf]
  refine ⟨_, exec_programAbort_own noise hA hf hm, ?_⟩
  change let t := respond m 0x0D#8 noise (ownerProgramAbort b n h).2 (ownerProgramAbort b n h).1; _
  rw [howner]
  refine ⟨?_, ?_, ?_, fun hauto => ?_, fun hauto => ?_, hdemand, hheat.2, hheat.1, hvalve, ?_, hsrs, hframe.snu,
    hframe.pts, hframe.moc, hframe.supervisor, fun c hc => ⟨hframe.bsq c hc, hframe.oau c hc, hframe.panels c hc,
      hframe.outputs c hc, hframe.aux c hc⟩⟩
  · refine hbsq.trans ?_
    simp [q]
  · refine hoau.trans ?_
    rw [if_pos hprogress]
  · rw [respond_pli, hframe.pli]
    rfl
  · refine (congrArg Serviced.driven hfan).trans ?_
    simp [driveServiced, hauto, parkFan]
  · refine (congrArg Serviced.driven hdamper).trans ?_
    simp [driveServiced, hauto]
  · change ((enterParking b .aborted h).panels.get b).pending &&& _ ≠ _
    rw [enterParking_pendingSet .aborted hprogress hfit]
    exact stateChange_pending

end Sys2Proof.Machine
end

section
/-! Pausing and resuming a program (R64), and the phases of a commit (R162 to R165). -/

namespace Sys2Proof.Machine

/-! ### The paused flag and PAUSED (R64) -/

section
variable {b : Bay} {s : State} {x : Context}

theorem setPaused_waiting (paused : Bool) (hx : (s.bsq.get b).context = some x) (hs : (s.bsq.get b).state = .waiting) :
    setPaused b paused s = setContext b (some { x with paused := paused }) s := by
  simp only [setPaused, hx, hs]

theorem setPaused_started (paused : Bool) (hx : (s.bsq.get b).context = some x)
    (hs : (s.bsq.get b).state = .running ∨ (s.bsq.get b).state = .held) :
    setPaused b paused s = changeHolds b { (s.bsq.get b).holds with paused := paused }
      (setContext b (some { x with paused := paused }) s) := by
  rcases hs with hs | hs <;> simp only [setPaused, hx, hs]

/-- The sequencer of a started step whose program is paused or resumed. -/
theorem setPaused_bsq (paused : Bool) (hx : (s.bsq.get b).context = some x)
    (hs : (s.bsq.get b).state = .running ∨ (s.bsq.get b).state = .held)
    (hlaw : (s.bsq.get b).state = .held ↔ (s.bsq.get b).holds ≠ HoldSet.empty) :
    (setPaused b paused s).bsq.get b =
      heldUnder { (s.bsq.get b).holds with paused := paused } { x with paused := paused } (s.bsq.get b) := by
  have hset : (setContext b (some { x with paused := paused }) s).bsq.get b =
      { s.bsq.get b with context := some { x with paused := paused } } := by simp [setContext]
  have hnew := changeHolds_started (b := b) (s := setContext b (some { x with paused := paused }) s)
    (x := { x with paused := paused }) { (s.bsq.get b).holds with paused := paused } (by rw [hset]) (by rw [hset]; exact hs)
    (by rw [hset]; exact hlaw)
  rw [setPaused_started paused hx hs, hnew, hset]
  rfl

theorem setPaused_frame (paused : Bool) : BayFrame b s (setPaused b paused s) := by
  unfold setPaused
  split
  · dsimp only
    split
    · exact setContext_frame b _ s
    · exact (setContext_frame b _ s).trans (changeHolds_frame b _ _)
  · exact .refl b s

theorem setPaused_rings (paused : Bool) : (setPaused b paused s).srs = s.srs ∧ (setPaused b paused s).oau = s.oau := by
  unfold setPaused
  split
  · dsimp only
    split
    · exact ⟨rfl, rfl⟩
    · exact changeHolds_rings b _ _
  · exact ⟨rfl, rfl⟩

theorem ownerBayPause_acts {n : Byte} (hn : (s.bsq.get b).admission = n) (hp : inProgress (s.bsq.get b) = true) :
    ownerBayPause b n s = (setPaused b true s, ackWith (bayAnswer b (setPaused b true s))) := by
  simp only [ownerBayPause, programMatch_acts hn hp]

theorem ownerBayResume_acts {n : Byte} (hn : (s.bsq.get b).admission = n) (hp : inProgress (s.bsq.get b) = true) :
    ownerBayResume b n s = (setPaused b false s, ackWith (bayAnswer b (setPaused b false s))) := by
  simp only [ownerBayResume, programMatch_acts hn hp]

end

/-- Settles O35: the flag in WAITING, the flag and the hold set in a started step. -/
theorem pauseAndResumeActOnTheNamedProgram : Obligations.PauseAndResumeActOnTheNamedProgram := by
  intro b noise n x s hA hf h q hbay hn hx
  obtain ⟨hheld, -⟩ := hbay
  have hpause := exec_bayPause_panel (n := n) noise hA hf
  have hresume := exec_bayResume_panel (n := n) noise hA hf
  refine ⟨fun hs => ?_, fun hs => ?_⟩
  · have hp : inProgress q = true := by simp [inProgress, hs]
    have hanswer (paused : Bool) : bayAnswer b (setPaused b paused h) = [0x02#8, n] := by
      have hq : (setPaused b paused h).bsq.get b = { q with context := some { x with paused := paused } } := by
        rw [setPaused_waiting paused hx hs]
        simp [setContext, q]
      simp only [bayAnswer, hq, hs, hn]
      rfl
    rw [hpause, hresume, ownerBayPause_acts hn hp, ownerBayResume_acts hn hp, hanswer, hanswer,
      setPaused_waiting true hx hs, setPaused_waiting false hx hs]
    exact ⟨rfl, rfl⟩
  · have hp : inProgress q = true := by rcases hs with hs | hs <;> simp [inProgress, hs]
    have hbsq (paused : Bool) : (setPaused b paused h).bsq.get b =
        heldUnder { q.holds with paused := paused } { x with paused := paused } q := setPaused_bsq paused hx hs hheld
    have hframe (paused : Bool) : BayFrame b h (setPaused b paused h) := setPaused_frame paused
    have hrings (paused : Bool) := setPaused_rings (b := b) (s := h) paused
    have hother (paused : Bool) (c : Bay) (hc : c ≠ b) := And.intro ((hframe paused).bsq c hc)
      (And.intro ((hframe paused).panels c hc) ((hframe paused).outputs c hc))
    have hpaused : ({ q.holds with paused := true } : HoldSet) ≠ HoldSet.empty := fun he => by
      cases congrArg HoldSet.paused he
    refine ⟨⟨_, hpause, ?_⟩, ⟨_, hresume, ?_⟩⟩
    · rw [ownerBayPause_acts hn hp]
      refine ⟨?_, ?_, (hrings true).1, (hrings true).2, (hframe true).snu, (hframe true).pts, (hframe true).moc,
        (hframe true).supervisor, hother true⟩
      · refine (hbsq true).trans ?_
        simp [heldUnder, hpaused]
      · have hanswer : bayAnswer b (setPaused b true h) = [0x04#8, n] := by
          simp only [bayAnswer, hbsq, heldUnder, if_neg hpaused, hn]
          rfl
        rw [respond_pli, hanswer]
        rfl
    · rw [ownerBayResume_acts hn hp]
      refine ⟨congrArg Bsq.holds (hbsq false), ?_, ?_, ?_, (hrings false).1, (hrings false).2, (hframe false).snu,
        (hframe false).pts, (hframe false).moc, (hframe false).supervisor, hother false⟩
      · simp only [respond_bsq, hbsq, heldUnder_running]
      · simp only [respond_bsq, hbsq]
        exact heldUnder_state _ _ q
      · simp only [respond_bsq, hbsq, heldUnder_running]
        have hsatisfied : ¬ (q.state = .running ∧ ({ q.holds with paused := false } : HoldSet) ≠ HoldSet.empty) := by
          rintro ⟨hrun, hne⟩
          have hempty : q.holds = HoldSet.empty := by
            by_contra hq
            rw [hheld.mpr hq] at hrun
            cases hrun
          exact hne (by rw [hempty]; rfl)
        simp only [heldUnder, if_neg hsatisfied]

/-! ### The commit (R162 to R165) -/

theorem ownerProfileCommit_begins {s : State} (h : s.pts.phase = .idle) :
    let begun := { s.pts with
      snapshot := some s.pts.table, dirty := false, reErased := false, rewritten := false, marker := false
      phase := .erasing, phaseTimer := 0 }
    ownerProfileCommit s = ({ s with pts := begun }, ackWith (commitBytes begun)) := if_pos h

theorem ownerProfileCommit_busy {s : State} (h : s.pts.phase ≠ .idle) :
    ownerProfileCommit s = (s, nakWith .storeBusy (commitBytes s.pts)) := if_neg h

theorem heard_supervisor_pts (s : State) : (heard .supervisor s).pts = s.pts := by rw [heard_supervisor_eq]

/-- Settles O56: `endPhase`, phase by phase. -/
theorem commitGoesThroughItsPhases : Obligations.CommitGoesThroughItsPhases := by
  intro noise pass s p
  refine ⟨fun hA => ?_, ?_⟩
  · have howner : exec (.profileCommit .supervisor noise) s = .next (respond .supervisor 0x11#8 noise
        (ownerProfileCommit (heard .supervisor s)).2 (ownerProfileCommit (heard .supervisor s)).1) :=
      congrArg Host.Outcome.next (takeRequest_supervisor_plant (r := .profileCommit) noise hA rfl rfl rfl rfl)
    have hpts := heard_supervisor_pts s
    refine ⟨fun hp => ?_, fun hp => ?_⟩
    · rw [howner, ownerProfileCommit_begins (by rw [hpts]; exact hp), hpts]
      rfl
    · rw [howner, ownerProfileCommit_busy (by rw [hpts]; exact hp), hpts]
      rfl
  · intro goes ends
    have hends {t : State} (h : endPhase pass s = t) : exec (.commitPhaseEnd pass) s = .next t := congrArg _ h
    refine ⟨fun hp => hends ?idle, fun hp => hends ?erased, fun hp hpass => hends ?blank, fun hp hpass hre => hends ?again,
      fun hp hpass hre => hends ?unblank, fun hp => hends ?written, fun hp hpass => hends ?verified,
      fun hp hpass hre => hends ?rewrite, fun hp hpass hre => hends ?unverified, fun hp => hends ?marked⟩
    case idle => simp only [endPhase, show s.pts.phase = .idle from hp]
    case erased =>
      simp only [endPhase, show s.pts.phase = .erasing from hp]
      rfl
    case blank =>
      simp only [endPhase, show s.pts.phase = .checking from hp, hpass, if_true]
      rfl
    case again =>
      simp only [endPhase, show s.pts.phase = .checking from hp, hpass, show s.pts.reErased = false from hre,
        Bool.false_eq_true, if_false]
      rfl
    case unblank =>
      simp only [endPhase, show s.pts.phase = .checking from hp, hpass, show s.pts.reErased = true from hre,
        Bool.false_eq_true, if_false, if_true]
      rfl
    case written =>
      simp only [endPhase, show s.pts.phase = .writing from hp]
      rfl
    case verified =>
      simp only [endPhase, show s.pts.phase = .verifying from hp, hpass, if_true]
      rfl
    case rewrite =>
      simp only [endPhase, show s.pts.phase = .verifying from hp, hpass, show s.pts.rewritten = false from hre,
        Bool.false_eq_true, if_false]
      rfl
    case unverified =>
      simp only [endPhase, show s.pts.phase = .verifying from hp, hpass, show s.pts.rewritten = true from hre,
        Bool.false_eq_true, if_false, if_true]
      rfl
    case marked =>
      simp only [endPhase, show s.pts.phase = .marking from hp]
      rfl

end Sys2Proof.Machine
end

section
/-! Re-evaluations of hold reasons bay by bay, and the changes between RUN and STANDBY (R46 to R51, R183, R184). -/

namespace Sys2Proof.Machine

/-! ### One bay while others are worked on -/

/-- Nothing of bay b, and nothing of the plant but totals, has changed. -/
structure Aside (b : Bay) (s t : State) : Prop where
  bsq : t.bsq.get b = s.bsq.get b
  srs : t.srs.get b = s.srs.get b
  oau : t.oau.get b = s.oau.get b
  panel : t.panels.get b = s.panels.get b
  outputs : t.alc.bays.get b = s.alc.bays.get b
  aux : t.pae.grants.aux.get b = s.pae.grants.aux.get b
  valve : t.blc.valves.get b = s.blc.valves.get b
  fitted : t.fitted = s.fitted
  moc : t.moc = s.moc
  snu : t.snu = s.snu
  boiler : t.blc.state = s.blc.state
  compressor : t.pae.grants.compressor = s.pae.grants.compressor

namespace Aside
variable {b c : Bay} {s t u : State}

theorem refl (b : Bay) (s : State) : Aside b s s := by constructor <;> rfl

theorem trans (h : Aside b s t) (k : Aside b t u) : Aside b s u where
  bsq := k.bsq.trans h.bsq
  srs := k.srs.trans h.srs
  oau := k.oau.trans h.oau
  panel := k.panel.trans h.panel
  outputs := k.outputs.trans h.outputs
  aux := k.aux.trans h.aux
  valve := k.valve.trans h.valve
  fitted := k.fitted.trans h.fitted
  moc := k.moc.trans h.moc
  snu := k.snu.trans h.snu
  boiler := k.boiler.trans h.boiler
  compressor := k.compressor.trans h.compressor

theorem of_bay (h : BayFrame c s t) (hc : b ≠ c) : Aside b s t where
  bsq := h.bsq b hc
  srs := h.srs b hc
  oau := h.oau b hc
  panel := h.panels b hc
  outputs := h.outputs b hc
  aux := h.aux b hc
  valve := h.valves b hc
  fitted := h.fitted
  moc := h.moc
  snu := h.snu
  boiler := by rw [h.blc]
  compressor := by rw [h.pae]

end Aside

/-- What is done for every bay in turn is done for bay b once, the other bays' turns leaving it aside. -/
theorem forBays_aside {f : Bay → State → State} (h : ∀ b s, BayFrame b s (f b s)) (s : State) (b : Bay) :
    ∃ u, Aside b s u ∧ Aside b (f b u) (forBays f s) := by
  have other {b c : Bay} (hc : b ≠ c) (s : State) : Aside b s (f c s) := .of_bay (h c s) hc
  cases b with
  | b0 => exact ⟨s, .refl _ s, ((other (by decide) _).trans (other (by decide) _)).trans (other (by decide) _)⟩
  | b1 => exact ⟨f .b0 s, other (by decide) _, (other (by decide) _).trans (other (by decide) _)⟩
  | b2 => exact ⟨f .b1 (f .b0 s), (other (by decide) _).trans (other (by decide) _), other (by decide) _⟩
  | b3 =>
    exact ⟨f .b2 (f .b1 (f .b0 s)), ((other (by decide) _).trans (other (by decide) _)).trans (other (by decide) _),
      .refl _ _⟩

/-! ### A re-evaluation (R46) -/

/-- A started step's hold set is put anew; a bay without one is left alone. -/
def rehold (change : Bay → HoldSet → StepCopy → State → HoldSet) (b : Bay) (s : State) : State :=
  match startedCopy (s.bsq.get b) with
  | some c => changeHolds b (change b (s.bsq.get b).holds c s) s
  | none => s

theorem reholdFront_eq : reholdFront = rehold fun b h c s => { h with frontOpen := frontHolds b c s } := rfl
theorem reholdSteam_eq : reholdSteam = rehold fun _ h c s => { h with noSteam := steamHolds c s } := rfl
theorem reholdPower_eq : reholdPower = rehold fun _ h c s => { h with noPower := powerHolds c s } := rfl
theorem reholdTank_eq : reholdTank = rehold fun _ h c s => { h with tankFull := tankHolds c s } := rfl
theorem reholdStandby_eq : reholdStandby = rehold fun _ h _ s => { h with plantStandby := standbyHolds s } := rfl

/-- A started step and its copy; it runs exactly when its hold set is empty (R39, R40). -/
structure Started (c : StepCopy) (q : Bsq) : Prop where
  copy : startedCopy q = some c
  law : q.state = .held ↔ q.holds ≠ HoldSet.empty

theorem BayLaw.started {q : Bsq} {c : StepCopy} (h : BayLaw q) (hc : startedCopy q = some c) : Started c q := ⟨hc, h.1⟩

theorem Started.context {q : Bsq} {c : StepCopy} (h : Started c q) : ∃ x, q.context = some x ∧ contextCopy x = some c := by
  have hcopy := h.copy
  rw [startedCopy_of_state (startedCopy_state hcopy), currentCopy] at hcopy
  exact Option.bind_eq_some_iff.mp hcopy

theorem Started.state {q : Bsq} {c : StepCopy} (h : Started c q) :
    q.state = if q.holds = HoldSet.empty then .running else .held := by
  split
  next he =>
    refine (startedCopy_state h.copy).resolve_right fun hheld => ?_
    exact h.law.mp hheld he
  next hne => exact h.law.mpr hne

section
variable {b : Bay} {c : StepCopy} {s : State} {change : Bay → HoldSet → StepCopy → State → HoldSet}

theorem heldUnder_started {q : Bsq} {x : Context} (h : HoldSet) (hc : contextCopy x = some c) :
    Started c (heldUnder h x q) where
  copy := by
    rw [startedCopy_of_state (heldUnder_state h x q)]
    exact hc
  law := by
    by_cases he : h = HoldSet.empty <;> simp [heldUnder, he]

theorem changeHolds_of_started (h : HoldSet) (hs : Started c (s.bsq.get b)) :
    ((changeHolds b h s).bsq.get b).holds = h ∧ Started c ((changeHolds b h s).bsq.get b) := by
  obtain ⟨x, hx, hcopy⟩ := hs.context
  rw [changeHolds_started h hx (startedCopy_state hs.copy) hs.law]
  exact ⟨rfl, heldUnder_started h hcopy⟩

theorem rehold_frame (b : Bay) (s : State) : BayFrame b s (rehold change b s) := by
  unfold rehold
  split
  · exact changeHolds_frame b _ s
  · exact .refl b s

theorem rehold_of_none (h : startedCopy (s.bsq.get b) = none) : rehold change b s = s := by
  simp only [rehold, h]

theorem rehold_of_started (hs : Started c (s.bsq.get b)) :
    ((rehold change b s).bsq.get b).holds = change b (s.bsq.get b).holds c s ∧
      Started c ((rehold change b s).bsq.get b) := by
  simp only [rehold, hs.copy]
  exact changeHolds_of_started _ hs

/-- A bay without a started step is left as it is by every re-evaluation. -/
theorem rehold_unstarted (h : startedCopy (s.bsq.get b) = none) (d : Bay) :
    (rehold change d s).bsq.get b = s.bsq.get b := by
  by_cases hd : b = d
  · subst hd
    rw [rehold_of_none h]
  · exact (rehold_frame d s).bsq b hd

/-- A started step with reasons of some kind, which re-evaluations of other reasons leave. -/
def StartedWith (r : HoldSet → Prop) (c : StepCopy) (q : Bsq) : Prop := Started c q ∧ r q.holds

theorem rehold_startedWith {r : HoldSet → Prop} (hr : ∀ b h c s, r h → r (change b h c s))
    (h : StartedWith r c (s.bsq.get b)) (d : Bay) : StartedWith r c ((rehold change d s).bsq.get b) := by
  obtain ⟨hs, hholds⟩ := h
  by_cases hd : b = d
  · subst hd
    obtain ⟨hnew, hstarted⟩ := rehold_of_started (change := change) hs
    exact ⟨hstarted, by rw [hnew]; exact hr _ _ _ _ hholds⟩
  · rw [(rehold_frame d s).bsq b hd]
    exact ⟨hs, hholds⟩

end

/-! ### What re-evaluations make of one sequencer -/

/-- A property of bay b's sequencer that re-evaluating NO_STEAM keeps is kept by a move of the boiler (R49). -/
theorem toBoiler_bay {P : Bsq → Prop} {b : Bay} (h : ∀ d s, P (s.bsq.get b) → P ((reholdSteam d s).bsq.get b))
    (next : BoilerState) {s : State} (hs : P (s.bsq.get b)) : P ((toBoiler next s).bsq.get b) := by
  by_cases hnext : s.blc.state = next
  · rw [toBoiler, if_pos hnext]
    exact hs
  · have hvalves (t : State) : (forBays driveValve t).bsq = t.bsq := forBays_keeps State.bsq (fun _ _ => rfl) t
    rw [toBoiler_of_ne hnext, hvalves]
    exact forBays_preserves (p := fun s => P (s.bsq.get b)) h (by rw [boilerMoved_bsq]; exact hs)

theorem coolBoiler_bay {P : Bsq → Prop} {b : Bay} (h : ∀ d s, P (s.bsq.get b) → P ((reholdSteam d s).bsq.get b))
    {s : State} (hs : P (s.bsq.get b)) : P ((coolBoiler s).bsq.get b) :=
  coolBoiler_keeps (p := fun s => P (s.bsq.get b)) (fun _ hs => toBoiler_bay h _ hs) hs

theorem forceCompressorOff_bay {P : Bsq → Prop} {b : Bay}
    (h : ∀ d s, P (s.bsq.get b) → P ((reholdPower d s).bsq.get b)) {s : State} (hs : P (s.bsq.get b)) :
    P ((forceCompressorOff s).bsq.get b) := by
  unfold forceCompressorOff
  split
  · exact forBays_preserves (p := fun s => P (s.bsq.get b)) h hs
  · exact hs

theorem examineSteam_bay {P : Bsq → Prop} {b : Bay} (h : ∀ d s, P (s.bsq.get b) → P ((reholdSteam d s).bsq.get b))
    {s : State} (hs : P (s.bsq.get b)) : P ((examineSteam s).bsq.get b) :=
  examineSteam_keeps (p := fun s => P (s.bsq.get b)) (fun _ hs => hs) (fun next _ hs => toBoiler_bay h next hs) hs

/-- A bay with a started step is not admitted to, so an examination of any bay's admission leaves its sequencer to the
re-evaluations (R33). -/
theorem examineAdmission_bay {P : Bsq → Prop} {b : Bay}
    (h : ∀ d s, P (s.bsq.get b) → P ((reholdSteam d s).bsq.get b)) (hidle : ∀ q, P q → q.state ≠ .idle) (d : Bay)
    {s : State} (hs : P (s.bsq.get b)) : P ((examineAdmission d s).bsq.get b) := by
  by_cases hd : b = d
  · subst hd
    rw [examineAdmission_of_not_idle (hidle _ hs)]
    exact hs
  · refine examineAdmission_keeps (p := fun s => P (s.bsq.get b)) ?_ ?_ (fun _ hs => hs)
      (fun next _ hs => toBoiler_bay h next hs) hs
    · intro t program index reason tag _ _ ht
      rw [(rejectProgram_frame d _ _ _ _ t).bsq b hd]
      exact ht
    · intro t program _ _ _ ht
      rw [((programAdmitted_frame d program t).trans (enterStep_frame d 0 _)).bsq b hd]
      exact ht

theorem reholdSteam_startedWith {r : HoldSet → Prop} {b : Bay} {c : StepCopy} (hr : ∀ h v, r h → r { h with noSteam := v })
    (d : Bay) (s : State) (h : StartedWith r c (s.bsq.get b)) : StartedWith r c ((reholdSteam d s).bsq.get b) := by
  rw [reholdSteam_eq]
  exact rehold_startedWith (fun _ _ _ _ => hr _ _) h d

theorem reholdPower_startedWith {r : HoldSet → Prop} {b : Bay} {c : StepCopy} (hr : ∀ h v, r h → r { h with noPower := v })
    (d : Bay) (s : State) (h : StartedWith r c (s.bsq.get b)) : StartedWith r c ((reholdPower d s).bsq.get b) := by
  rw [reholdPower_eq]
  exact rehold_startedWith (fun _ _ _ _ => hr _ _) h d

/-- After the re-evaluation of PLANT_STANDBY in every bay, a started step has the reason exactly in STANDBY (R51). -/
theorem reholdStandby_startedWith {b : Bay} {c : StepCopy} {s : State} (h : Started c (s.bsq.get b)) :
    StartedWith (fun h => h.plantStandby = standbyHolds s) c ((forBays reholdStandby s).bsq.get b) := by
  obtain ⟨u, hu, hafter⟩ := forBays_aside reholdStandby_frame s b
  have hstarted : Started c (u.bsq.get b) := by rw [hu.bsq]; exact h
  rw [hafter.bsq, reholdStandby_eq]
  obtain ⟨hnew, hs⟩ := rehold_of_started (change := fun _ h _ s => { h with plantStandby := standbyHolds s }) hstarted
  refine ⟨hs, ?_⟩
  rw [hnew]
  simp only [standbyHolds, hu.moc]

theorem reholdStandby_unstarted {b : Bay} {s : State} (h : startedCopy (s.bsq.get b) = none) :
    (forBays reholdStandby s).bsq.get b = s.bsq.get b := by
  refine forBays_preserves (p := fun t => t.bsq.get b = s.bsq.get b) (fun d t ht => ?_) rfl
  rw [reholdStandby_eq, rehold_unstarted (by rw [ht]; exact h), ht]

/-! ### To STANDBY (R184) -/

section
variable {b : Bay} {s : State}

theorem enterStandby_started {c : StepCopy} (h : Started c (s.bsq.get b)) :
    StartedWith (fun h => h.plantStandby = true) c ((enterStandby s).bsq.get b) := by
  have hheld := reholdStandby_startedWith (s := { s with moc := { s.moc with phase := .standby } }) h
  exact forceCompressorOff_bay (P := StartedWith (fun h => h.plantStandby = true) c)
    (reholdPower_startedWith fun _ _ hr => hr) (coolBoiler_bay (P := StartedWith (fun h => h.plantStandby = true) c)
      (reholdSteam_startedWith fun _ _ hr => hr) hheld)

theorem enterStandby_unstarted (h : startedCopy (s.bsq.get b) = none) : (enterStandby s).bsq.get b = s.bsq.get b := by
  have hsteam (d : Bay) (t : State) (ht : t.bsq.get b = s.bsq.get b) : (reholdSteam d t).bsq.get b = s.bsq.get b := by
    rw [reholdSteam_eq, rehold_unstarted (by rw [ht]; exact h), ht]
  have hpower (d : Bay) (t : State) (ht : t.bsq.get b = s.bsq.get b) : (reholdPower d t).bsq.get b = s.bsq.get b := by
    rw [reholdPower_eq, rehold_unstarted (by rw [ht]; exact h), ht]
  have hstandby := reholdStandby_unstarted (s := { s with moc := { s.moc with phase := .standby } }) h
  exact forceCompressorOff_bay (P := (· = s.bsq.get b)) hpower (coolBoiler_bay (P := (· = s.bsq.get b)) hsteam hstandby)

theorem enterStandby_plantFrame :
    PlantFrame { s with moc := { s.moc with phase := .standby } } (enterStandby s) :=
  ((forBays_plantFrame _ reholdStandby_plantFrame _).trans (coolBoiler_plantFrame _)).trans (forceCompressorOff_plantFrame _)

theorem coolBoiler_state (s : State) :
    (coolBoiler s).blc.state = if s.blc.state = .locked then .locked else .cold := by
  unfold coolBoiler
  split
  · assumption
  · exact toBoiler_state _ _

theorem enterStandby_boiler :
    (enterStandby s).blc.state = if s.blc.state = .locked then .locked else .cold := by
  rw [enterStandby, (forceCompressorOff_boilerSame _).state, coolBoiler_state, (standbyHeld_boilerSame s).state]

/-- The compressor is OFF in STANDBY; one that was ON has been turned OFF with its min-off timer from 0. -/
theorem enterStandby_compressor :
    (enterStandby s).pae.compressorOn = false ∧
    (s.pae.compressorOn = true → CompressorStopped (enterStandby s) ∧ (enterStandby s).pae.minOff = 0) ∧
    (s.pae.compressorOn = false → (enterStandby s).pae.minOff = s.pae.minOff) ∧
    (enterStandby s).pae.shed = s.pae.shed := by
  have hphase : CompressorSame s { s with moc := { s.moc with phase := .standby } } := by constructor <;> rfl
  have hsame := (hphase.trans (.forBays (fun b s => .of_bay (reholdStandby_frame b s)) _)).trans
    (coolBoiler_compressorSame _)
  unfold enterStandby
  generalize coolBoiler (forBays reholdStandby { s with moc := { s.moc with phase := .standby } }) = u at hsame ⊢
  rw [← hsame.on, ← hsame.minOff, ← hsame.shed]
  cases hon : u.pae.compressorOn with
  | true =>
    obtain ⟨hstopped, hminOff, hshed⟩ := forceCompressorOff_on hon
    exact ⟨hstopped.on, fun _ => ⟨hstopped, hminOff⟩, nofun, hshed⟩
  | false =>
    rw [forceCompressorOff_off hon]
    exact ⟨hon, nofun, fun _ => rfl, rfl⟩

end

/-- Settles O10: the hold sets, the boiler and the compressor in turn. -/
theorem standbyHoldsStepsAndStopsThePlant : Obligations.StandbyHoldsStepsAndStopsThePlant := by
  intro noise s hbays hrun
  obtain ⟨h, hh⟩ : ∃ h, h = heard .supervisor s := ⟨_, rfl⟩
  have hheard := hh.trans (heard_supervisor_eq s)
  have hbsq : h.bsq = s.bsq := by rw [hheard]
  have hpae : h.pae = { s.pae with effective := h.pae.effective } := by rw [hheard]
  have howner : ownerPlantMode 0x01#8 h = (enterStandby h, ackWith [0x01#8]) := by
    have hphase : h.moc.phase = .run := by rw [hheard]; exact hrun
    change ownerPlantModeStandby h = _
    rw [ownerPlantModeStandby, if_pos hphase, enterStandby_phase]
    rfl
  have hframe := enterStandby_plantFrame (s := h)
  obtain ⟨hoff, hon, hstays, hshed⟩ := enterStandby_compressor (s := h)
  have hstarted (b : Bay) (c : StepCopy) (hc : startedCopy (s.bsq.get b) = some c) :=
    enterStandby_started (s := h) (b := b) (by rw [hbsq]; exact (hbays b).started hc)
  have hunstarted (b : Bay) (hb : startedCopy (s.bsq.get b) = none) :=
    enterStandby_unstarted (s := h) (b := b) (by rw [hbsq]; exact hb)
  have hboiler := enterStandby_boiler (s := h)
  refine ⟨_, congrArg Host.Outcome.next (takeRequest_plantMode noise 0x01#8 (.inl hrun)), ?_⟩
  rw [← hh, howner]
  generalize enterStandby h = t at *
  refine ⟨?_, rfl, fun b hb => ?_, fun b hb => ?_, ?_, hoff, fun h1 => ?_, fun h1 => ?_, ?_, ?_, ?_, ?_, ?_, ?_, ?_, ?_, ?_,
    ?_, ?_⟩
  · refine hframe.moc.trans ?_
    rw [hheard]
  · obtain ⟨c, hc⟩ := Option.isSome_iff_exists.mp hb
    obtain ⟨hstep, hstandby⟩ := hstarted b c hc
    refine ⟨hstep.law.mpr fun hempty => ?_, hstandby⟩
    have hnone : (t.bsq.get b).holds.plantStandby = false := by rw [hempty]; rfl
    rw [hstandby] at hnone
    cases hnone
  · refine (hunstarted b hb).trans ?_
    rw [hbsq]
  · refine hboiler.trans ?_
    rw [hheard]
  · obtain ⟨hstopped, hminOff⟩ := hon (by rw [hpae]; exact h1)
    exact ⟨hminOff, hstopped.grant, hstopped.drive⟩
  · refine (hstays (by rw [hpae]; exact h1)).trans ?_
    rw [hpae]
  · refine hframe.budget.trans ?_
    rw [hheard]
  · refine hframe.roundTimer.trans ?_
    rw [hheard]
  · refine hshed.trans ?_
    rw [hpae]
  · refine hframe.pending.trans ?_
    rw [hheard]
  · refine hframe.fitted.trans ?_
    rw [hheard]
  · refine hframe.srs.trans ?_
    rw [hheard]
  · refine hframe.oau.trans ?_
    rw [hheard]
  · refine hframe.snu.trans ?_
    rw [hheard]
  · refine hframe.pts.trans ?_
    rw [hheard]
  · refine hframe.untaken.trans ?_
    rw [hheard]
  · refine hframe.freeCount.trans ?_
    rw [hheard]

/-! ### To RUN (R184) -/

section
variable {b : Bay} {s : State}

theorem enterRun_started {c : StepCopy} (h : Started c (s.bsq.get b)) :
    StartedWith (fun h => h.plantStandby = false) c ((enterRun s).bsq.get b) := by
  have hsteam := reholdSteam_startedWith (r := fun h => h.plantStandby = false) (b := b) (c := c) fun _ _ hr => hr
  have hidle (q : Bsq) (hq : StartedWith (fun h => h.plantStandby = false) c q) : q.state ≠ .idle := by
    rcases startedCopy_state hq.1.copy with hs | hs <;> simp [hs]
  have hreleased := reholdStandby_startedWith (s := { s with moc := { s.moc with phase := .run } }) h
  exact forBays_preserves (p := fun t => StartedWith (fun h => h.plantStandby = false) c (t.bsq.get b))
    (fun d _ => examineAdmission_bay hsteam hidle d) (examineSteam_bay hsteam hreleased)

theorem Kept.forBays {f : Bay → State → State} (h : ∀ b s, Kept s (f b s)) (s : State) : Kept s (forBays f s) :=
  (((h .b0 s).trans (h .b1 _)).trans (h .b2 _)).trans (h .b3 _)

theorem enterRun_kept : Kept { s with moc := { s.moc with phase := .run } } (enterRun s) :=
  ((Kept.forBays (fun b s => .of_plant (reholdStandby_plantFrame b s)) _).trans
    (.of_plant (examineSteam_plantFrame _))).trans (Kept.forBays examineAdmission_kept _)

theorem examineSteam_compressorSame (s : State) : CompressorSame s (examineSteam s) :=
  examineSteam_keeps (p := CompressorSame s) (fun t ht => ht.trans (by constructor <;> rfl))
    (fun next t ht => ht.trans (toBoiler_compressorSame next t)) (.refl s)

theorem examineAdmission_compressorSame (b : Bay) (s : State) : CompressorSame s (examineAdmission b s) :=
  examineAdmission_keeps (p := CompressorSame s)
    (fun {t _} index reason tag _ _ ht => ht.trans (.of_bay (rejectProgram_frame b _ index reason tag t)))
    (fun {t program} _ _ _ ht => ht.trans (.of_bay ((programAdmitted_frame b program t).trans (enterStep_frame b 0 _))))
    (fun t ht => ht.trans (by constructor <;> rfl)) (fun next t ht => ht.trans (toBoiler_compressorSame next t)) (.refl s)

theorem enterRun_compressorSame : CompressorSame s (enterRun s) := by
  have hphase : CompressorSame s { s with moc := { s.moc with phase := .run } } := by constructor <;> rfl
  exact ((hphase.trans (.forBays (fun b s => .of_bay (reholdStandby_frame b s)) _)).trans
    (examineSteam_compressorSame _)).trans (.forBays examineAdmission_compressorSame _)

end

/-- Settles O11: the hold sets, and what an examination of admission keeps. -/
theorem runReleasesHeldSteps : Obligations.RunReleasesHeldSteps := by
  intro noise s hbays hstandby
  obtain ⟨h, hh⟩ : ∃ h, h = heard .supervisor s := ⟨_, rfl⟩
  have hheard := hh.trans (heard_supervisor_eq s)
  have hframe := enterRun_kept (s := h)
  have howner : ownerPlantMode 0x00#8 h = (enterRun h, ackWith [0x00#8]) := by
    have hphase : h.moc.phase = .standby := by rw [hheard]; exact hstandby
    change ownerPlantModeRun h = _
    rw [ownerPlantModeRun, if_pos hphase, hframe.moc]
    rfl
  have hcompressor := enterRun_compressorSame (s := h)
  have hreleased (b : Bay) (c : StepCopy) (hc : startedCopy (s.bsq.get b) = some c) :=
    enterRun_started (s := h) (b := b) (by rw [hheard]; exact (hbays b).started hc)
  refine ⟨_, congrArg Host.Outcome.next (takeRequest_plantMode noise 0x00#8 (.inr hstandby)), ?_⟩
  rw [← hh, howner]
  generalize enterRun h = t at *
  refine ⟨?_, rfl, fun b hb => ?_, ?_, ?_, ?_, ?_, ?_, ?_, ?_, ?_⟩
  · refine hframe.moc.trans ?_
    rw [hheard]
  · obtain ⟨c, hc⟩ := Option.isSome_iff_exists.mp hb
    obtain ⟨hstep, hnone⟩ := hreleased b c hc
    refine ⟨hnone, ?_⟩
    rw [respond_bsq, hstep.state]
    split <;> simp_all
  · refine hcompressor.on.trans ?_
    rw [hheard]
  · refine hcompressor.minOff.trans ?_
    rw [hheard]
  · refine hframe.budget.trans ?_
    rw [hheard]
  · refine hframe.pending.trans ?_
    rw [hheard]
  · refine hframe.fitted.trans ?_
    rw [hheard]
  · refine hframe.snu.trans ?_
    rw [hheard]
  · refine hframe.pts.trans ?_
    rw [hheard]
  · refine hframe.freeCount.trans ?_
    rw [hheard]

end Sys2Proof.Machine
end

section
/-! How an examination of admission ends, and what it leaves of outputs, rings and the boiler (R16, R33 to R35, R97 to R103,
R118). -/

namespace Sys2Proof.Machine

/-! ### Rejections, then perhaps an acceptance (R34) -/

/-- Programs rejected one after the other. -/
inductive Rejections (b : Bay) : State → State → Prop
  | none (s : State) : Rejections b s s
  | more {s t : State} {program : List StepRecord} (index : Nat) (reason : RejectReason) (tag : Byte)
      (ha : admissible b s = true) (hp : headProgram (s.srs.get b).records = some program)
      (h : Rejections b (rejectProgram b program.length index reason tag s) t) : Rejections b s t

/-- The conditions of admission, one by one (R33). -/
theorem admissible_iff (b : Bay) (s : State) : admissible b s = true ↔
    (s.bsq.get b).state = .idle ∧ (s.panels.get b).present = true ∧ s.moc.phase = .run ∧
      (s.alc.bays.get b).fan.mode = .auto ∧ (s.alc.bays.get b).damper.mode = .auto ∧
      (s.alc.bays.get b).osc.mode = .auto ∧ (s.snu.temps.get b).state = .valid ∧ (s.snu.hums.get b).state = .valid ∧
      1 ≤ freeEntries (s.oau.get b) := by
  simp only [admissible, noneServiced, bothValid, Bool.and_eq_true, decide_eq_true_eq, and_assoc]

/-- The conditions under which a program is accepted (R15, R33). -/
structure Acceptable (b : Bay) (program : List StepRecord) (s : State) : Prop where
  may : admissible b s = true
  oldest : headProgram (s.srs.get b).records = some program
  passes : firstFailure s.pts.table 0 program = none

theorem examineAdmission_form (b : Bay) (s : State) : ∃ u, Rejections b s u ∧ (examineAdmission b s = u ∨
    ∃ program, Acceptable b program u ∧ examineAdmission b s = acceptProgram b program u) := by
  suffices h : ∀ n s, ∃ u, Rejections b s u ∧ (admitPrograms n b s = u ∨
    ∃ program, Acceptable b program u ∧ admitPrograms n b s = acceptProgram b program u) from h _ s
  intro n
  induction n with
  | zero => exact fun s => ⟨s, .none s, .inl rfl⟩
  | succ n ih =>
    intro s
    rw [admitPrograms]
    split
    next ha =>
      split
      next program hp =>
        split
        next i reason tag hf =>
          obtain ⟨u, hu, hend⟩ := ih (rejectProgram b program.length i reason tag s)
          exact ⟨u, .more i reason tag ha hp hu, hend⟩
        next hf => exact ⟨s, .none s, .inr ⟨program, ⟨ha, hp, hf⟩, rfl⟩⟩
      next => exact ⟨s, .none s, .inl rfl⟩
    next => exact ⟨s, .none s, .inl rfl⟩

section
variable {b : Bay} {s t : State}

theorem rejectProgram_rest (steps index : Nat) (reason : RejectReason) (tag : Byte) (s : State) :
    (rejectProgram b steps index reason tag s).bsq = s.bsq ∧ (rejectProgram b steps index reason tag s).alc = s.alc ∧
    (rejectProgram b steps index reason tag s).pae = s.pae ∧ (rejectProgram b steps index reason tag s).blc = s.blc := by
  simp [rejectProgram, postOutcome_bsq, postOutcome_alc, postOutcome_pae, postOutcome_blc]

theorem Rejections.frame (h : Rejections b s t) : BayFrame b s t := by
  induction h with
  | none s => exact .refl b s
  | more index reason tag ha hp h ih => exact (rejectProgram_frame b _ index reason tag _).trans ih

/-- Rejections touch the two rings and the events alone. -/
theorem Rejections.rest (h : Rejections b s t) : t.bsq = s.bsq ∧ t.alc = s.alc ∧ t.pae = s.pae ∧ t.blc = s.blc := by
  induction h with
  | none s => exact ⟨rfl, rfl, rfl, rfl⟩
  | @more s t program index reason tag ha hp h ih =>
    obtain ⟨hbsq, halc, hpae, hblc⟩ := rejectProgram_rest (b := b) program.length index reason tag s
    exact ⟨ih.1.trans hbsq, ih.2.1.trans halc, ih.2.2.1.trans hpae, ih.2.2.2.trans hblc⟩

/-- Rejections post behind the records that were there. -/
theorem Rejections.posts (h : Rejections b s t) :
    ∃ posted, (t.oau.get b).records = (s.oau.get b).records ++ posted := by
  induction h with
  | none s => exact ⟨[], (List.append_nil _).symm⟩
  | @more s t program index reason tag ha hp h ih =>
    obtain ⟨posted, hposted⟩ := ih
    have hreject : ∃ rec, ((rejectProgram b program.length index reason tag s).oau.get b).records =
        (s.oau.get b).records ++ [rec] := by
      simp [rejectProgram, postOutcome_ring]
    obtain ⟨rec, hrec⟩ := hreject
    exact ⟨rec :: posted, by rw [hposted, hrec]; simp⟩

end

/-! ### Admission numbers (R36) -/

theorem changeHolds_admission (b c : Bay) (h : HoldSet) (s : State) :
    ((changeHolds b h s).bsq.get c).admission = (s.bsq.get c).admission := by
  by_cases hc : c = b
  · subst hc
    rcases changeHolds_cases c h s with hsame | ⟨x, -, -, -, hq⟩ | ⟨x, -, -, -, hq⟩ | ⟨hq, -⟩
    · rw [hsame]
    all_goals rw [hq]
  · rw [(changeHolds_frame b h s).bsq c hc]

theorem toBoiler_admission (c : Bay) (next : BoilerState) (s : State) :
    ((toBoiler next s).bsq.get c).admission = (s.bsq.get c).admission :=
  toBoiler_keeps (p := fun t => (t.bsq.get c).admission = (s.bsq.get c).admission)
    (fun next t h => by rw [boilerMoved_bsq]; exact h) (fun b holds t h => (changeHolds_admission b c holds t).trans h)
    (fun _ _ h => h) next rfl

theorem examineSteam_admission (c : Bay) (s : State) :
    ((examineSteam s).bsq.get c).admission = (s.bsq.get c).admission :=
  examineSteam_keeps (p := fun t => (t.bsq.get c).admission = (s.bsq.get c).admission) (fun _ h => h)
    (fun next t h => (toBoiler_admission c next t).trans h) rfl

theorem startStep_admission (b : Bay) (s : State) :
    ((startStep b s).bsq.get b).admission = (s.bsq.get b).admission := by
  have hform := startStep_form b s
  generalize startStep b s = t at hform ⊢
  cases hform <;> simp

theorem enterStep_admission (b : Bay) (index : Nat) (s : State) :
    ((enterStep b index s).bsq.get b).admission = (s.bsq.get b).admission := by
  have hform := enterStep_form b index s
  generalize enterStep b index s = t at hform ⊢
  cases hform with
  | none => rfl
  | waits => simp
  | starts => simp [startStep_admission]

theorem acceptProgram_admission (b : Bay) (program : List StepRecord) (s : State) :
    ((acceptProgram b program s).bsq.get b).admission = (s.bsq.get b).admission + 1 := by
  rw [acceptProgram_eq, examineSteam_admission, enterStep_admission]
  simp [programAdmitted]

/-! ### Outputs that follow the sequencer (R116, R118) -/

/-- Fan, damper and oscillator stand as the sequencer, or SERVICE, has them. -/
structure AirOf (q : Bsq) (o x : BayOutputs) : Prop where
  fan : x.fan = driveServiced (autoFan q) o.fan
  damper : x.damper = driveServiced (autoDamper q) o.damper
  osc : x.osc = driveServiced (autoOsc q) o.osc

/-- The outputs of bay b stand as its sequencer has them, their modes and service values being those of `o`. -/
def AirDriven (b : Bay) (o : BayOutputs) (s : State) : Prop := AirOf (s.bsq.get b) o (s.alc.bays.get b)

theorem AirOf.congr {q p : Bsq} {o x y : BayOutputs} (h : AirOf q o x) (hstate : p.state = q.state)
    (hx : p.context = q.context) (hfan : y.fan = x.fan) (hdamper : y.damper = x.damper) (hosc : y.osc = x.osc) :
    AirOf p o y := by
  have hcopy : currentCopy p = currentCopy q := by simp [currentCopy, hx]
  obtain ⟨h1, h2, h3⟩ := h
  refine ⟨hfan.trans (h1.trans ?_), hdamper.trans (h2.trans ?_), hosc.trans (h3.trans ?_)⟩
  · simp only [autoFan, hstate, hcopy]
  · simp only [autoDamper, hstate, hcopy]
  · simp only [autoOsc, hstate, hcopy]

section
variable {b : Bay} {s : State} {o : BayOutputs}

/-- Driving a bay anew whose outputs already follow leaves modes and service values. -/
theorem AirOf.driven {q : Bsq} (h : AirOf q o (s.alc.bays.get b)) : AirDriven b o (driveBay b s) := by
  obtain ⟨h1, h2, h3⟩ := h
  rw [AirDriven, driveBay_outputs, h1, h2, h3]
  exact ⟨rfl, rfl, rfl⟩

theorem driveBay_air (b : Bay) (s : State) : AirDriven b (s.alc.bays.get b) (driveBay b s) := by
  rw [AirDriven, driveBay_outputs]
  exact ⟨rfl, rfl, rfl⟩

theorem changeHolds_air (c : Bay) (h : HoldSet) (hs : AirDriven b o s) : AirDriven b o (changeHolds c h s) := by
  by_cases hc : b = c
  · subst hc
    have hform := changeHolds_form b h s
    generalize changeHolds b h s = t at hform ⊢
    cases hform with
    | same => exact hs
    | kept => exact AirOf.congr (y := _) hs (by simp) (by simp) (by simp) (by simp) (by simp)
    | held =>
      refine AirOf.driven (q := s.bsq.get b) ?_
      rw [withdrawAux_outputs, holdsMoved_alc]
      exact hs.congr rfl rfl rfl rfl rfl
    | released =>
      refine AirOf.driven (q := s.bsq.get b) ?_
      rw [holdsMoved_alc]
      exact hs
  · have hframe := changeHolds_frame c h s
    rw [AirDriven, hframe.bsq b hc, hframe.outputs b hc]
    exact hs

theorem toBoiler_air (next : BoilerState) (hs : AirDriven b o s) : AirDriven b o (toBoiler next s) :=
  toBoiler_keeps (p := AirDriven b o)
    (fun next t h => by rw [AirDriven, boilerMoved_bsq, boilerMoved_alc]; exact h)
    (fun c holds t h => changeHolds_air c holds h) (fun _ _ h => h) next hs

theorem startStep_air (hcopy : currentCopy (s.bsq.get b) ≠ none) :
    AirDriven b (s.alc.bays.get b) (startStep b s) := by
  have hform := startStep_form b s
  generalize startStep b s = t at hform ⊢
  cases hform with
  | none hc => exact absurd hc hcopy
  | @starts x c hx hc =>
    have hair := driveBay_air b (stepSettled b (zeroStep x) (formHolds b x c s) (promiseStep b x s))
    rwa [stepSettled_alc, promiseStep_alc] at hair

theorem enterStep_air {x : Context} {index : Nat} (hx : (s.bsq.get b).context = some x)
    (hcopy : contextCopy (enteredContext index x) ≠ none) : AirDriven b (s.alc.bays.get b) (enterStep b index s) := by
  have hform := enterStep_form b index s
  generalize enterStep b index s = t at hform ⊢
  cases hform with
  | none hnone => rw [hx] at hnone; cases hnone
  | @waits y hy hw =>
    have hair := driveBay_air b (setBsq b
      { (stepEntered b index y s).bsq.get b with state := .waiting, holds := HoldSet.empty } (stepEntered b index y s))
    rwa [setBsq_alc, stepEntered_alc] at hair
  | starts hy hw =>
    obtain rfl : x = _ := Option.some.inj (hx.symm.trans hy)
    have hair := startStep_air (b := b) (s := stepEntered b index x s) (by simpa [currentCopy] using hcopy)
    rwa [stepEntered_alc] at hair

theorem Acceptable.copy {program : List StepRecord} (h : Acceptable b program s) :
    ∃ x, ((programAdmitted b program s).bsq.get b).context = some x ∧
      x.copies = (clampProgram s.pts.table program).1 ∧ x.stepCount = program.length ∧
      contextCopy (enteredContext 0 x) ≠ none := by
  obtain ⟨x, hx, hcopies, hcount⟩ := programAdmitted_context b program s
  exact ⟨x, hx, hcopies, hcount, firstCopy_ne_none h.passes (headProgram_length h.oldest).1 hcopies hcount⟩

theorem acceptProgram_air {program : List StepRecord} (h : Acceptable b program s) :
    AirDriven b (s.alc.bays.get b) (acceptProgram b program s) := by
  obtain ⟨x, hx, -, -, hcopy⟩ := h.copy
  exact examineSteam_keeps (p := AirDriven b (s.alc.bays.get b)) (fun _ ht => ht) (fun next _ ht => toBoiler_air next ht)
    (enterStep_air hx hcopy)

end

theorem Acceptable.auto {b : Bay} {program : List StepRecord} {s : State} (h : Acceptable b program s) :
    (s.alc.bays.get b).fan.mode = .auto ∧ (s.alc.bays.get b).damper.mode = .auto ∧
      (s.alc.bays.get b).osc.mode = .auto := by
  obtain ⟨-, -, -, hfan, hdamper, hosc, -⟩ := (admissible_iff b s).mp h.may
  exact ⟨hfan, hdamper, hosc⟩

/-- After an examination: no new admission number and the bay as it was, or the next number and outputs that follow. -/
theorem examineAdmission_bayOrAir (b : Bay) (s : State) :
    ((examineAdmission b s).bsq.get b = s.bsq.get b ∧ (examineAdmission b s).alc.bays.get b = s.alc.bays.get b) ∨
    (((examineAdmission b s).bsq.get b).admission = (s.bsq.get b).admission + 1 ∧
      (s.alc.bays.get b).fan.mode = .auto ∧ (s.alc.bays.get b).damper.mode = .auto ∧ (s.alc.bays.get b).osc.mode = .auto ∧
      AirDriven b (s.alc.bays.get b) (examineAdmission b s)) := by
  obtain ⟨u, hu, hend⟩ := examineAdmission_form b s
  obtain ⟨hbsq, halc, -, -⟩ := hu.rest
  rcases hend with hend | ⟨program, hacc, hend⟩
  · exact .inl (by rw [hend, hbsq, halc]; exact ⟨rfl, rfl⟩)
  · obtain ⟨hfan, hdamper, hosc⟩ := hacc.auto
    have hair := acceptProgram_air hacc
    rw [halc] at hfan hdamper hosc hair
    rw [hend, acceptProgram_admission, hbsq]
    exact .inr ⟨rfl, hfan, hdamper, hosc, hair⟩

/-! ### Where an examined start takes the boiler (R98 to R103) -/

theorem boilerTempIs_congr {test : Nat → Bool} {s t : State} (h : t.snu.boilerTemp = s.snu.boilerTemp) :
    boilerTempIs test t = boilerTempIs test s := by
  unfold boilerTempIs
  rw [h]

theorem enterHeat_state (s : State) :
    (enterHeat s).blc.state = if boilerTempIs (fun v => decide (102 ≤ v)) s then .ready else .heat := by
  have htest : boilerTempIs (fun t => decide (readyTemp ≤ t)) (toBoiler .heat s) =
      boilerTempIs (fun v => decide (102 ≤ v)) s :=
    boilerTempIs_congr (by rw [(toBoiler_plantFrame .heat s).snu])
  unfold enterHeat
  dsimp only
  rw [htest]
  split <;> exact toBoiler_state _ _

/-- The boiler's state once a start has been examined. -/
theorem examineStart_state (s : State) : (examineStart s).blc.state =
    if s.blc.state = .cold ∧ steamWanted s = true ∧ s.snu.boilerCutout.filtered = false ∧
        s.snu.boilerTemp.state = .valid ∧ s.moc.pumpMode = .auto then
      if s.snu.boilerWaterOk.filtered then
        if boilerTempIs (fun v => decide (102 ≤ v)) s then .ready else .heat
      else if s.snu.freshEmpty.filtered then .starved else .fill
    else s.blc.state := by
  unfold examineStart
  split
  · split
    · exact enterHeat_state s
    · exact towardsFill_state s
  · rfl

end Sys2Proof.Machine
end

section
/-! OUTPUT_SERVICE (R109, R129, R188, R189). -/

namespace Sys2Proof.Machine

/-! ### Handing the request to the owner -/

section
variable {index value : Byte} {s : State}

theorem exec_outputService {mode : Byte} {o : OutputId} (noise : Bool) (hA : Awake s) (ho : outputOf index = some o)
    (hb : ∀ b, outputBay o = some b → s.fitted.get b = true) :
    takeRequest .supervisor noise (.outputService index mode value) s =
      respond .supervisor 0x14#8 noise (ownerOutputService index mode value (heard .supervisor s)).2
        (ownerOutputService index mode value (heard .supervisor s)).1 :=
  takeRequest_passes noise hA ⟨rfl, rfl, rfl, by simp [indexOk, ho], fun b hbay =>
    ⟨hb b (by simpa [bayNamed, ho] using hbay), rfl⟩⟩

theorem ownerOutputService_service {o : OutputId} (ho : outputOf index = some o) :
    ownerOutputService index 0x01#8 value s = ownerService index value o s := by
  simp [ownerOutputService, ho]

theorem ownerOutputService_auto {o : OutputId} (ho : outputOf index = some o) :
    ownerOutputService index 0x00#8 value s =
      (serviceToAuto o s, ackWith (index :: outputAnswer o (serviceToAuto o s))) := by
  simp [ownerOutputService, ho]

theorem mayService_iff (b : Bay) (s : State) :
    mayService b s = true ↔ (s.bsq.get b).state = .idle ∨ (s.bsq.get b).state = .faulted := by simp [mayService]

theorem mayServicePump_iff (s : State) :
    mayServicePump s = true ↔ s.blc.state = .cold ∨ s.blc.state = .starved ∨ s.blc.state = .locked := by
  simp [mayServicePump, or_assoc]

/-- What the owner of a bay's output refuses (R188). -/
theorem ownerService_refuses {b : Bay} {o : OutputId} (ho : outputBay o = some b) (h : mayService b s = false) :
    ownerService index value o s = (s, nakWith .badState []) := by
  cases o with
  | pump => cases ho
  | fan c | damper c | osc c =>
    obtain rfl : c = b := Option.some.inj ho
    simp [ownerService, h]

end

/-- Settles O14: `ownerService`, output by output. -/
theorem serviceDrivesTheClampedValue : Obligations.ServiceDrivesTheClampedValue := by
  intro noise index value b s hA hf h o answer refused
  have hbsq : h.bsq = s.bsq := heard_supervisor_bsq s
  have hgot {x : OutputId} (hx : outputOf index = some x) (hb : outputBay x = some b ∨ outputBay x = none) :
      exec (.outputService .supervisor noise index value) s = .next
        (respond .supervisor 0x14#8 noise (ownerService index value x h).2 (ownerService index value x h).1) := by
    refine (congrArg Host.Outcome.next (exec_outputService (mode := 0x01#8) noise hA hx fun c hc => ?_)).trans ?_
    · rcases hb with hb | hb
      · obtain rfl : c = b := Option.some.inj (hc.symm.trans hb)
        exact hf
      · rw [hb] at hc
        cases hc
    · rw [ownerOutputService_service hx]
  refine ⟨fun hs => ?serviced, fun hidle hfaulted hx => ?refused, fun hindex => ?pump⟩
  case serviced =>
    have hmay : mayService b h = true := (mayService_iff b h).mpr (by rw [hbsq]; exact hs)
    have hdone {x : OutputId} {v : Byte} {t : State} (hx : outputOf index = some x) (hb : outputBay x = some b)
        (howner : ownerService index value x h = (t, ackWith [index, 0x01#8, v])) : answer v t := by
      refine (hgot hx (.inl hb)).trans ?_
      rw [howner]
      rfl
    refine ⟨fun hx => hdone hx rfl ?_, fun hx => hdone hx rfl ?_, fun hx hv => hdone hx rfl ?_,
      fun hx hv => hdone hx rfl ?_⟩
    · simp only [ownerService, hmay, if_true, outputAnswer, setOutputs_bays, PerBay.get_set_same]
      rfl
    · simp only [ownerService, hmay, if_true, outputAnswer, setOutputs_bays, PerBay.get_set_same]
      rfl
    · subst hv
      simp only [ownerService, hmay, if_true, outputAnswer, setOutputs_bays, PerBay.get_set_same]
      rfl
    · have hopen : damperOf value.toNat = .opened := if_neg fun h0 => hv (BitVec.eq_of_toNat_eq h0)
      simp only [ownerService, hmay, if_true, outputAnswer, setOutputs_bays, PerBay.get_set_same, hopen]
      rfl
  case refused =>
    have hno : mayService b h = false := by
      rw [Bool.eq_false_iff, ne_eq, mayService_iff, hbsq]
      exact fun hs => hs.elim hidle hfaulted
    have hrefused {x : OutputId} (hx : outputOf index = some x) (hb : outputBay x = some b) : refused := by
      refine (hgot hx (.inl hb)).trans ?_
      rw [ownerService_refuses hb hno]
      rfl
    rcases hx with hx | hx | hx <;> exact hrefused hx rfl
  case pump =>
    have hpump : outputOf index = some .pump := if_pos hindex
    have hblc : h.blc = s.blc := by rw [show h = _ from heard_supervisor_eq s]
    refine ⟨fun hs => (hgot hpump (.inr rfl)).trans ?_, fun hs => (hgot hpump (.inr rfl)).trans ?_⟩
    · have hmay : mayServicePump h = true := (mayServicePump_iff h).mpr (by rw [hblc]; exact hs)
      by_cases hv : value = 0#8
      · simp only [ownerService, hmay, if_true, outputAnswer, hv]
        rfl
      · simp only [ownerService, hmay, if_true, outputAnswer, hv, ne_eq, not_false_eq_true, decide_true, if_false]
        rfl
    · have hno : mayServicePump h = false := by
        rw [Bool.eq_false_iff, ne_eq, mayServicePump_iff, hblc]
        rcases hs with hs | hs | hs <;> simp [hs]
      simp only [ownerService, hno, Bool.false_eq_true, if_false]
      rfl

/-! ### Back to AUTO (R189) -/

section
variable {b : Bay} {s : State}

theorem afterService_eq (b : Bay) (s : State) : afterService b s =
    if (s.alc.bays.get b).fan.mode = .auto ∧ (s.alc.bays.get b).damper.mode = .auto ∧ (s.alc.bays.get b).osc.mode = .auto
    then examineAdmission b s else s := by
  have hnone : noneServiced (s.alc.bays.get b) = true ↔ (s.alc.bays.get b).fan.mode = .auto ∧
      (s.alc.bays.get b).damper.mode = .auto ∧ (s.alc.bays.get b).osc.mode = .auto := by
    simp [noneServiced, and_assoc]
  unfold afterService
  by_cases h : noneServiced (s.alc.bays.get b) = true
  · rw [if_pos h, if_pos (hnone.mp h)]
  · rw [if_neg h, if_neg fun k => h (hnone.mpr k)]

theorem driveServiced_auto {α : Type} {o : Serviced α} (v : α) (h : o.mode = .auto) :
    driveServiced v o = ⟨v, .auto, o.service, false⟩ := by
  obtain ⟨driven, mode, service, awaiting⟩ := o
  obtain rfl : mode = .auto := h
  rfl

/-- After an output's return: the bay with these outputs as it stands, or one with a program admitted, whose outputs follow
its sequencer. -/
theorem afterService_outputs (b : Bay) (s : State) :
    let t := afterService b s
    let o := s.alc.bays.get b
    (t.bsq.get b = s.bsq.get b ∧ t.alc.bays.get b = o) ∨
    ((t.bsq.get b).admission = (s.bsq.get b).admission + 1 ∧
      (t.alc.bays.get b).fan = ⟨autoFan (t.bsq.get b), .auto, o.fan.service, false⟩ ∧
      (t.alc.bays.get b).damper = ⟨autoDamper (t.bsq.get b), .auto, o.damper.service, false⟩ ∧
      (t.alc.bays.get b).osc = ⟨autoOsc (t.bsq.get b), .auto, o.osc.service, false⟩) := by
  intro t o
  have ht : t = afterService b s := rfl
  rw [afterService_eq] at ht
  split at ht
  · rcases examineAdmission_bayOrAir b s with hsame | ⟨hnext, hfan, hdamper, hosc, hair⟩
    · exact .inl (by rw [ht]; exact hsame)
    · refine .inr ?_
      rw [ht]
      exact ⟨hnext, hair.fan.trans (driveServiced_auto _ hfan), hair.damper.trans (driveServiced_auto _ hdamper),
        hair.osc.trans (driveServiced_auto _ hosc)⟩
  · exact .inl (by rw [ht]; exact ⟨rfl, rfl⟩)

end

/-! ### The pump back to AUTO (R109) -/

/-- In AUTO the pump runs exactly in FILL. -/
def PumpFollows (s : State) : Prop := s.moc.pumpMode = .auto ∧ s.blc.pumpDrive = decide (s.blc.state = .fill)

theorem toBoiler_pumpFollows (next : BoilerState) (s : State) (h : PumpFollows s) : PumpFollows (toBoiler next s) := by
  by_cases hnext : s.blc.state = next
  · rw [toBoiler, if_pos hnext]
    exact h
  · obtain ⟨hauto, -⟩ := h
    refine ⟨by rw [(toBoiler_plantFrame next s).moc]; exact hauto, ?_⟩
    rw [toBoiler_state, toBoiler_blc next s hnext]
    simp [moveBlc, hauto]

theorem refill_pumpFollows {s : State} (h : PumpFollows s) : PumpFollows (refill s) := by
  unfold refill towardsFill
  split
  · split <;> exact toBoiler_pumpFollows _ s h
  · exact h

/-- A STARVED boiler with its pump in AUTO goes on to FILL, or stays while the tank is empty. -/
theorem refill_state {s : State} (hauto : s.moc.pumpMode = .auto) : (refill s).blc.state =
    if s.blc.state = .starved then (if s.snu.freshEmpty.filtered then .starved else .fill) else s.blc.state := by
  unfold refill
  by_cases hstarved : s.blc.state = .starved
  · cases hempty : s.snu.freshEmpty.filtered with
    | true => simp [hstarved]
    | false => simp [hstarved, hauto, towardsFill_state, hempty]
  · simp [hstarved]

/-- The state of the plant as the pump is back in AUTO, before the boiler's start is examined. -/
def pumpReturned (s : State) : State :=
  { s with
    moc := { s.moc with pumpMode := .auto }
    blc := { s.blc with pumpDrive := decide (s.blc.state = .fill) } }

theorem pumpToAuto_eq (s : State) : pumpToAuto s = refill (examineStart (pumpReturned s)) := rfl

theorem pumpToAuto_follows (s : State) : PumpFollows (pumpToAuto s) := by
  have h : PumpFollows (pumpReturned s) := ⟨rfl, rfl⟩
  exact refill_pumpFollows (examineStart_keeps toBoiler_pumpFollows h)

theorem pumpToAuto_plantFrame (s : State) : PlantFrame (pumpReturned s) (pumpToAuto s) :=
  (examineStart_plantFrame _).trans (refill_plantFrame _)

theorem examineStart_compressorSame (s : State) : CompressorSame s (examineStart s) :=
  examineStart_keeps (p := CompressorSame s) (fun next t ht => ht.trans (toBoiler_compressorSame next t)) (.refl s)

theorem refill_compressorSame (s : State) : CompressorSame s (refill s) := by
  unfold refill towardsFill
  split
  · split <;> exact toBoiler_compressorSame _ s
  · exact .refl s

theorem pumpReturned_compressorSame (s : State) : CompressorSame s (pumpReturned s) := by constructor <;> rfl

theorem pumpToAuto_compressorSame (s : State) : CompressorSame s (pumpToAuto s) :=
  ((pumpReturned_compressorSame s).trans (examineStart_compressorSame _)).trans (refill_compressorSame _)

/-- Where the boiler stands once the pump is back in AUTO. -/
theorem pumpToAuto_state (s : State) :
    let towards : BoilerState := if s.snu.freshEmpty.filtered then .starved else .fill
    (s.blc.state = .starved → (pumpToAuto s).blc.state = towards) ∧
    (s.blc.state = .cold → (pumpToAuto s).blc.state =
      if steamWanted s = true ∧ s.snu.boilerCutout.filtered = false ∧ s.snu.boilerTemp.state = .valid then
        if s.snu.boilerWaterOk.filtered then if boilerTempIs (fun c => decide (102 ≤ c)) s then .ready else .heat
        else towards
      else .cold) ∧
    (s.blc.state ≠ .starved → s.blc.state ≠ .cold → (pumpToAuto s).blc.state = s.blc.state) := by
  intro towards
  have hstart : (examineStart (pumpReturned s)).blc.state =
      if s.blc.state = .cold ∧ steamWanted s = true ∧ s.snu.boilerCutout.filtered = false ∧
          s.snu.boilerTemp.state = .valid then
        if s.snu.boilerWaterOk.filtered then if boilerTempIs (fun c => decide (102 ≤ c)) s then .ready else .heat
        else towards
      else s.blc.state := by
    refine (examineStart_state (pumpReturned s)).trans ?_
    simp only [pumpReturned, and_true]
    rfl
  have hframe := examineStart_plantFrame (pumpReturned s)
  have hend : (pumpToAuto s).blc.state = if (examineStart (pumpReturned s)).blc.state = .starved then towards
      else (examineStart (pumpReturned s)).blc.state := by
    rw [pumpToAuto_eq, refill_state (by rw [hframe.moc]; rfl), hframe.snu]
    rfl
  have htowards : ∀ x : BoilerState, x = towards → (if x = .starved then towards else x) = x := by
    rintro x rfl
    split <;> rfl
  rw [hend, hstart]
  refine ⟨fun hs => by simp [hs], fun hs => ?_, fun hstarved hcold => by simp [hstarved, hcold]⟩
  simp only [hs, true_and]
  split
  · split
    · split <;> rfl
    · exact htowards _ rfl
  · rfl

/-! ### The answer -/

section
variable {b : Bay} {o : BayOutputs}

/-- What a returned output, and an admission that may follow it, make of the bay. -/
theorem afterService_returns (b : Bay) (o : BayOutputs) (h : State) :
    let t := afterService b (setOutputs b o h)
    let q := t.bsq.get b
    (q.admission = (h.bsq.get b).admission → q = h.bsq.get b ∧ t.alc.bays.get b = o) ∧
    (q.admission ≠ (h.bsq.get b).admission →
      (t.alc.bays.get b).fan = ⟨autoFan q, .auto, o.fan.service, false⟩ ∧
      (t.alc.bays.get b).damper = ⟨autoDamper q, .auto, o.damper.service, false⟩ ∧
      (t.alc.bays.get b).osc = ⟨autoOsc q, .auto, o.osc.service, false⟩) := by
  have hset : (setOutputs b o h).alc.bays.get b = o := by simp
  have hnext (n : Byte) : n + 1 ≠ n := by
    intro hn
    simp at hn
  have houts := afterService_outputs b (setOutputs b o h)
  rw [hset, setOutputs_bsq] at houts
  rcases houts with ⟨hq, ho⟩ | ⟨hadm, houts⟩
  · exact ⟨fun _ => ⟨hq, ho⟩, fun hne => absurd (congrArg Bsq.admission hq) hne⟩
  · exact ⟨fun heq => absurd (hadm.symm.trans heq) (hnext _), fun _ => houts⟩

/-- The modes and service values of a bay's outputs after the return. -/
theorem afterService_modes (b : Bay) (o : BayOutputs) (h : State) :
    let x := (afterService b (setOutputs b o h)).alc.bays.get b
    (o.fan.mode = .auto → x.fan.mode = .auto ∧ x.fan.service = o.fan.service) ∧
    (o.damper.mode = .auto → x.damper.mode = .auto ∧ x.damper.service = o.damper.service) ∧
    (o.osc.mode = .auto → x.osc.mode = .auto ∧ x.osc.service = o.osc.service) := by
  have hset : (setOutputs b o h).alc.bays.get b = o := by simp
  have houts := afterService_outputs b (setOutputs b o h)
  rw [hset] at houts
  rcases houts with ⟨-, ho⟩ | ⟨-, hfan, hdamper, hosc⟩
  · rw [ho]
    exact ⟨fun hm => ⟨hm, rfl⟩, fun hm => ⟨hm, rfl⟩, fun hm => ⟨hm, rfl⟩⟩
  · dsimp only
    rw [hfan, hdamper, hosc]
    exact ⟨fun _ => ⟨rfl, rfl⟩, fun _ => ⟨rfl, rfl⟩, fun _ => ⟨rfl, rfl⟩⟩

theorem damperCode_eq (d : Damper) : damperCode d = if d = .closed then 0x00#8 else 0x01#8 := by cases d <;> rfl

end

/-- Settles O15: the return of each output of a bay, and of the pump. -/
theorem autoReturnsServicedOutputs : Obligations.AutoReturnsServicedOutputs := by
  intro noise index value s hA h answers returns
  have hheard : h = _ := heard_supervisor_eq s
  have hbsq : h.bsq = s.bsq := heard_supervisor_bsq s
  have halc : h.alc = s.alc := by rw [hheard]
  have hmoc : h.moc = s.moc := by rw [hheard]
  have hgot {x : OutputId} {v : Byte} {t : State} (hx : outputOf index = some x)
      (hb : ∀ c, outputBay x = some c → s.fitted.get c = true) (ht : serviceToAuto x h = t)
      (hanswer : outputAnswer x t = [0x00#8, v]) : answers v t := by
    refine (congrArg Host.Outcome.next (exec_outputService (mode := 0x00#8) noise hA hx hb)).trans ?_
    rw [ownerOutputService_auto hx, show serviceToAuto x (heard .supervisor s) = t from ht, hanswer]
    rfl
  have hreturns {b : Bay} {v : Byte} {o : BayOutputs} (hans : answers v (afterService b (setOutputs b o h))) :
      returns b v o := by
    have hafter := afterService_eq b (setOutputs b o h)
    rw [setOutputs_bays, PerBay.get_set_same] at hafter
    have hmade := afterService_returns b o h
    rw [hafter] at hans hmade
    rw [hbsq] at hmade
    exact ⟨hans, hmade.1, hmade.2⟩
  refine ⟨fun b hf => ?_, fun hindex => ?_⟩
  · intro o
    have hfit {x : OutputId} (hx : outputBay x = some b) (c : Bay) (hc : outputBay x = some c) : s.fitted.get c = true := by
      obtain rfl : b = c := Option.some.inj (hx.symm.trans hc)
      exact hf
    have ho : h.alc.bays.get b = o := by rw [halc]
    refine ⟨fun hx => ⟨fun hm => ?_, fun hm => hreturns ?_⟩, fun hx => ⟨fun hm => ?_, fun hm => hreturns ?_⟩,
      fun hx => ⟨fun hm => ?_, fun hm => hreturns ?_⟩⟩
    · exact hgot hx (hfit rfl) (by simp [serviceToAuto, ho, hm]) (by simp [outputAnswer, ho, hm, outputModeCode, byteOf])
    · obtain ⟨hmodes, -, -⟩ := afterService_modes b { o with fan := ⟨0, .auto, o.fan.service, true⟩ } h
      obtain ⟨hmode, hservice⟩ := hmodes rfl
      refine hgot hx (hfit rfl) (by simp [serviceToAuto, ho, hm, autoServiced]) ?_
      rw [outputAnswer, hmode, hservice]
      rfl
    · exact hgot hx (hfit rfl) (by simp [serviceToAuto, ho, hm]) (by simp [outputAnswer, ho, hm, outputModeCode, damperCode_eq])
    · obtain ⟨-, hmodes, -⟩ := afterService_modes b { o with damper := ⟨.closed, .auto, o.damper.service, true⟩ } h
      obtain ⟨hmode, hservice⟩ := hmodes rfl
      refine hgot hx (hfit rfl) (by simp [serviceToAuto, ho, hm, autoServiced]) ?_
      rw [outputAnswer, hmode, hservice, damperCode_eq]
      rfl
    · exact hgot hx (hfit rfl) (by simp [serviceToAuto, ho, hm]) (by simp [outputAnswer, ho, hm, outputModeCode, byteOf])
    · obtain ⟨-, -, hmodes⟩ := afterService_modes b { o with osc := ⟨0, .auto, o.osc.service, true⟩ } h
      obtain ⟨hmode, hservice⟩ := hmodes rfl
      refine hgot hx (hfit rfl) (by simp [serviceToAuto, ho, hm, autoServiced]) ?_
      rw [outputAnswer, hmode, hservice]
      rfl
  · intro v towards started
    have hx : outputOf index = some .pump := if_pos hindex
    have hnofit (c : Bay) (hc : outputBay .pump = some c) : s.fitted.get c = true := by cases hc
    refine ⟨fun hm => ?_, fun hm => ?_⟩
    · refine hgot hx hnofit (by simp [serviceToAuto, hmoc, hm]) ?_
      simp [outputAnswer, hmoc, hm, outputModeCode, v]
    · have hframe := pumpToAuto_plantFrame h
      obtain ⟨hstarved, hcold, hother⟩ := pumpToAuto_state h
      obtain ⟨hauto, hdrive⟩ := pumpToAuto_follows h
      have hcompressor := pumpToAuto_compressorSame h
      have htmoc : (pumpToAuto h).moc = { s.moc with pumpMode := .auto } := by rw [hframe.moc, ← hmoc]; rfl
      have htest : boilerTempIs (fun c => decide (102 ≤ c)) h = boilerTempIs (fun c => decide (102 ≤ c)) s := by
        rw [hheard]
        rfl
      have hwanted : steamWanted h = steamWanted s := by
        rw [hheard]
        rfl
      have hsnu : h.snu = s.snu := by rw [hheard]
      have hblc : h.blc = s.blc := by rw [hheard]
      rw [hsnu, hblc] at hstarved hcold
      rw [hblc] at hother
      rw [htest, hwanted] at hcold
      refine ⟨pumpToAuto h, hgot hx hnofit (by simp [serviceToAuto, hmoc, hm]) ?_, htmoc, by simp [hdrive], hstarved, hcold,
        hother, ?_, ?_, ?_, ?_, ?_⟩
      · rw [outputAnswer, htmoc]
        rfl
      · rw [hframe.srs, hheard]
        rfl
      · rw [hframe.oau, hheard]
        rfl
      · rw [hframe.snu, hheard]
        rfl
      · rw [hframe.pts, hheard]
        rfl
      · rw [hcompressor.drive, halc]

end Sys2Proof.Machine
end

section
/-! A warm restart: what each block clears and keeps (R187). -/

namespace Sys2Proof.Machine

/-! ### One bay -/

/-- Bay b as a warm restart leaves it: rings and program gone, a program in progress parking, outputs in AUTO, no heat. -/
structure BayRestarted (b : Bay) (s t : State) : Prop where
  srs : t.srs.get b = ⟨[], 0, 0, 0, 0⟩
  oau : t.oau.get b = ⟨[], 0, 0, false, false⟩
  bsq : t.bsq.get b = { s.bsq.get b with
    state := if inProgress (s.bsq.get b) then .parking else (s.bsq.get b).state
    context := none, holds := HoldSet.empty
    parkTimer := if inProgress (s.bsq.get b) then 0 else (s.bsq.get b).parkTimer
    parkMinTaken := if inProgress (s.bsq.get b) then false else (s.bsq.get b).parkMinTaken }
  parked : inProgress (s.bsq.get b) = true → (t.alc.bays.get b).fan.driven = 8 ∧
    (t.alc.bays.get b).damper.driven = .opened ∧ (t.alc.bays.get b).osc.driven = 0
  auto : (t.alc.bays.get b).fan.mode = .auto ∧ (t.alc.bays.get b).damper.mode = .auto ∧ (t.alc.bays.get b).osc.mode = .auto
  demand : (t.alc.bays.get b).demand = 0
  heat : HeatOff b t
  panel : t.panels.get b = s.panels.get b

theorem autoServiced_mode {α : Type} (v : α) (o : Serviced α) : (autoServiced v o).mode = .auto := by
  unfold autoServiced
  split
  next => rfl
  next h =>
    cases hm : o.mode with
    | auto => rfl
    | service => exact absurd hm h

theorem auxDemand_of_no_context {b : Bay} {s : State} (h : (s.bsq.get b).context = none) : auxDemand b s = 0 := by
  have hcopy : runningCopy (s.bsq.get b) = none := by
    unfold runningCopy
    split
    · rw [currentCopy, h]
      rfl
    · rfl
  simp only [auxDemand, hcopy]

theorem startedCopy_of_no_context {q : Bsq} (h : q.context = none) : startedCopy q = none := by
  cases hc : startedCopy q with
  | none => rfl
  | some c =>
    rw [startedCopy_of_state (startedCopy_state hc), currentCopy, h] at hc
    cases hc

theorem restartBay_outputs (b : Bay) (s : State) :
    let o := (restartBay b s).alc.bays.get b
    (inProgress (s.bsq.get b) = true → o.fan.driven = 8 ∧ o.damper.driven = .opened ∧ o.osc.driven = 0) ∧
    (o.fan.mode = .auto ∧ o.damper.mode = .auto ∧ o.osc.mode = .auto) ∧ o.demand = 0 := by
  have hfan : (autoOutputs (s.alc.bays.get b)).fan.mode = .auto := autoServiced_mode _ _
  have hdamper : (autoOutputs (s.alc.bays.get b)).damper.mode = .auto := autoServiced_mode _ _
  have hosc : (autoOutputs (s.alc.bays.get b)).osc.mode = .auto := autoServiced_mode _ _
  unfold restartBay
  dsimp only
  split
  · rw [driveBay_outputs]
    dsimp only
    rw [auxDemand_of_no_context (by simp), withdrawAux_outputs]
    simp only [setBsq_alc, setOutputs_bays, PerBay.get_set_same, setOutcomes_alc, setRing_alc, withdrawAux_bsq, setBsq_bsq]
    rw [driveServiced_auto _ hfan, driveServiced_auto _ hdamper, driveServiced_auto _ hosc]
    exact ⟨fun _ => ⟨rfl, rfl, rfl⟩, ⟨rfl, rfl, rfl⟩, trivial⟩
  next hp =>
    rw [formDemand_outputs]
    dsimp only
    rw [auxDemand_of_no_context (by simp), withdrawAux_outputs]
    simp only [setBsq_alc, setOutputs_bays, PerBay.get_set_same, setOutcomes_alc, setRing_alc]
    exact ⟨fun h => absurd h hp, ⟨hfan, hdamper, hosc⟩, trivial⟩

theorem restartBay_panels (b : Bay) (s : State) : (restartBay b s).panels = s.panels := by
  unfold restartBay
  dsimp only
  split
  · rw [driveBay_panels, withdrawAux_panels]
    rfl
  · change (withdrawAux b _).panels = _
    rw [withdrawAux_panels]
    rfl

theorem restartBay_restarted (b : Bay) (s : State) : BayRestarted b s (restartBay b s) := by
  obtain ⟨hsrs, hoau, hbsq⟩ := restartBay_rings b s
  obtain ⟨hparked, hauto, hdemand⟩ := restartBay_outputs b s
  exact ⟨hsrs, hoau, hbsq, hparked, hauto, hdemand, restartBay_heatOff, by rw [restartBay_panels]⟩

theorem BayRestarted.aside {b : Bay} {s t u v : State} (h : BayRestarted b t u) (before : Aside b s t) (after : Aside b u v) :
    BayRestarted b s v where
  srs := after.srs.trans h.srs
  oau := after.oau.trans h.oau
  bsq := by rw [after.bsq, h.bsq, before.bsq]
  parked := by
    rw [after.outputs, ← before.bsq]
    exact h.parked
  auto := by
    rw [after.outputs]
    exact h.auto
  demand := by rw [after.outputs, h.demand]
  heat := ⟨after.aux.trans h.heat.1, by rw [after.outputs, h.heat.2]⟩
  panel := by rw [after.panel, h.panel, before.panel]

theorem forBays_restartBay (s : State) (b : Bay) : BayRestarted b s (forBays restartBay s) := by
  obtain ⟨u, before, after⟩ := forBays_aside (fun b s => restartBay_frame s b) s b
  exact (restartBay_restarted b u).aside before after

/-! ### The boiler, no bay having a program -/

/-- The boiler alone has moved: with no program in any bay it meets no hold reason. -/
structure BoilerAlone (s t : State) : Prop where
  idle : ∀ b, startedCopy (t.bsq.get b) = none
  plant : PlantFrame s t
  compressor : CompressorSame s t
  bsq : t.bsq = s.bsq
  panels : t.panels = s.panels
  alc : t.alc = s.alc
  mask : t.supervisor.mask = s.supervisor.mask
  aux : t.pae.grants.aux = s.pae.grants.aux
  charges : t.pae.grants.fan = s.pae.grants.fan ∧ t.pae.grants.osc = s.pae.grants.osc ∧ t.pae.grants.pump = s.pae.grants.pump
  grant : s.pae.grants.boiler = 0 → t.pae.grants.boiler = 0
  blc : t.blc.cause = s.blc.cause ∧ t.blc.pointer = s.blc.pointer ∧ t.blc.produced = s.blc.produced

theorem BoilerAlone.refl {s : State} (h : ∀ b, startedCopy (s.bsq.get b) = none) : BoilerAlone s s where
  idle := h
  plant := .refl s
  compressor := .refl s
  bsq := rfl
  panels := rfl
  alc := rfl
  mask := rfl
  aux := rfl
  charges := ⟨rfl, rfl, rfl⟩
  grant := id
  blc := ⟨rfl, rfl, rfl⟩

theorem boilerMoved_alone (next : BoilerState) {s : State} (h : ∀ b, startedCopy (s.bsq.get b) = none) :
    BoilerAlone s (boilerMoved next s) := by
  refine ⟨by rw [boilerMoved_bsq]; exact h, ?_, boilerMoved_compressorSame next s, boilerMoved_bsq next s,
    boilerMoved_panels s next, boilerMoved_alc next s, ?_, ?_, ?_, fun hg => ?_, ?_⟩ <;>
    unfold boilerMoved <;> dsimp only <;> split
  · constructor <;> rfl
  · constructor <;> rfl
  · rfl
  · rfl
  · rfl
  · rfl
  · exact ⟨rfl, rfl, rfl⟩
  · exact ⟨rfl, rfl, rfl⟩
  · rfl
  · exact hg
  · exact ⟨rfl, rfl, rfl⟩
  · exact ⟨rfl, rfl, rfl⟩

theorem BoilerAlone.driveValve {s t : State} (b : Bay) (h : BoilerAlone s t) : BoilerAlone s (driveValve b t) where
  idle := h.idle
  plant := h.plant.trans (driveValve_plantFrame b t)
  compressor := h.compressor.trans (.of_bay (driveValve_frame b t))
  bsq := h.bsq
  panels := h.panels
  alc := h.alc
  mask := h.mask
  aux := h.aux
  charges := h.charges
  grant := h.grant
  blc := h.blc

theorem BoilerAlone.trans {s t u : State} (h : BoilerAlone s t) (k : BoilerAlone t u) : BoilerAlone s u where
  idle := k.idle
  plant := h.plant.trans k.plant
  compressor := h.compressor.trans k.compressor
  bsq := k.bsq.trans h.bsq
  panels := k.panels.trans h.panels
  alc := k.alc.trans h.alc
  mask := k.mask.trans h.mask
  aux := k.aux.trans h.aux
  charges := by
    obtain ⟨hfan, hosc, hpump⟩ := k.charges
    rw [hfan, hosc, hpump]
    exact h.charges
  grant hg := k.grant (h.grant hg)
  blc := by
    obtain ⟨hcause, hpointer, hproduced⟩ := k.blc
    rw [hcause, hpointer, hproduced]
    exact h.blc

theorem toBoiler_alone (next : BoilerState) {s : State} (h : ∀ b, startedCopy (s.bsq.get b) = none) :
    BoilerAlone s (toBoiler next s) := by
  by_cases hn : s.blc.state = next
  · rw [toBoiler, if_pos hn]
    exact .refl h
  · rw [toBoiler_of_ne hn]
    have hsteam : BoilerAlone s (forBays reholdSteam (boilerMoved next s)) :=
      forBays_preserves (p := BoilerAlone s)
        (fun b t ht => by rw [reholdSteam_eq, rehold_of_none (ht.idle b)]; exact ht) (boilerMoved_alone next h)
    exact forBays_preserves (p := BoilerAlone s) (fun b _ ht => ht.driveValve b) hsteam

theorem coolBoiler_alone {s : State} (h : ∀ b, startedCopy (s.bsq.get b) = none) : BoilerAlone s (coolBoiler s) :=
  coolBoiler_keeps (p := fun t => BoilerAlone s t) (fun _ ht => ht.trans (toBoiler_alone .cold ht.idle)) (.refl h)

/-! ### The whole part -/

/-- The plant with the power part restarted and the pump in AUTO, the boiler still to cool. -/
def restartReady (w : State) : State :=
  let u := restartPae w
  { u with moc := { u.moc with pumpMode := .auto } }

/-- What a warm restart does last: the boiler's counts, the reset cause, frame assembly and the events. -/
def restartDone (t : State) : State :=
  restartEvents { t with
    blc := { t.blc with
      fillTimer := 0, idleTimer := 0, carry := 0, lastYield := 0, credits := PerBay.fill 0, pumpDrive := false }
    moc := { t.moc with resetCause := .warm }
    pli := { t.pli with rx := .hunt } }

theorem restartDone_panel (b : Bay) (t : State) : (restartDone t).panels.get b =
    if t.fitted.get b then setPending (panelBit .restarted) (t.panels.get b) else t.panels.get b := by
  simp only [restartDone, restartEvents, PerBay.get_ofFn]

theorem restartPlant_eq (s : State) : restartPlant s = restartDone (coolBoiler (restartReady (forBays restartBay s))) := by
  unfold restartPlant restartBlc restartReady
  generalize restartPae (forBays restartBay s) = w
  dsimp only
  generalize coolBoiler _ = t
  rfl

/-- The bays' part of a warm restart touches nothing of the plant but the boiler's valves and the heaters' entries. -/
theorem forBays_frame {f : Bay → State → State} (h : ∀ b s, BayFrame b s (f b s)) (s : State) :
    let t := forBays f s
    t.pending = s.pending ∧ t.fitted = s.fitted ∧ t.moc = s.moc ∧ t.pli = s.pli ∧ t.supervisor = s.supervisor ∧
    t.snu = s.snu ∧ t.pts = s.pts ∧ t.freeCount = s.freeCount :=
  ⟨forBays_keeps State.pending (fun b s => (h b s).pending) s, forBays_keeps State.fitted (fun b s => (h b s).fitted) s,
    forBays_keeps State.moc (fun b s => (h b s).moc) s, forBays_keeps State.pli (fun b s => (h b s).pli) s,
    forBays_keeps State.supervisor (fun b s => (h b s).supervisor) s, forBays_keeps State.snu (fun b s => (h b s).snu) s,
    forBays_keeps State.pts (fun b s => (h b s).pts) s, forBays_keeps State.freeCount (fun b s => (h b s).freeCount) s⟩

theorem forBays_charges {f : Bay → State → State} (h : ∀ b s, BayFrame b s (f b s)) (s : State) :
    let g := (forBays f s).pae.grants
    g.fan = s.pae.grants.fan ∧ g.osc = s.pae.grants.osc ∧ g.pump = s.pae.grants.pump ∧
    (forBays f s).pae.roundTimer = s.pae.roundTimer :=
  ⟨forBays_keeps (fun t => t.pae.grants.fan) (fun b s => by rw [(h b s).pae]) s,
    forBays_keeps (fun t => t.pae.grants.osc) (fun b s => by rw [(h b s).pae]) s,
    forBays_keeps (fun t => t.pae.grants.pump) (fun b s => by rw [(h b s).pae]) s,
    forBays_keeps (fun t => t.pae.roundTimer) (fun b s => by rw [(h b s).pae]) s⟩

theorem restartReady_idle (s : State) (b : Bay) :
    startedCopy ((restartReady (forBays restartBay s)).bsq.get b) = none := by
  refine startedCopy_of_no_context ?_
  have hbsq := (forBays_restartBay s b).bsq
  generalize forBays restartBay s = w at hbsq ⊢
  change (w.bsq.get b).context = none
  rw [hbsq]

/-- The part as a warm restart leaves it before its events are set. -/
structure PlantRestarted (s t : State) : Prop where
  bay : ∀ b, BayRestarted b s t
  pending : t.pending = s.pending
  fitted : t.fitted = s.fitted
  moc : t.moc = { s.moc with pumpMode := .auto }
  pli : t.pli = s.pli
  present : t.supervisor.present = s.supervisor.present
  mask : t.supervisor.mask = s.supervisor.mask
  snu : t.snu = s.snu
  pts : t.pts = s.pts
  freeCount : t.freeCount = s.freeCount
  roundTimer : t.pae.roundTimer = s.pae.roundTimer
  budget : t.pae.budget = 2000
  effective : t.pae.effective = effectiveBudget s.supervisor.present 2000
  on : t.pae.compressorOn = false
  minOn : t.pae.minOn = 0
  minOff : t.pae.minOff = 0
  shed : t.pae.shed = false
  boilerGrant : t.pae.grants.boiler = 0
  compressorGrant : t.pae.grants.compressor = 0
  fan : t.pae.grants.fan = s.pae.grants.fan
  osc : t.pae.grants.osc = s.pae.grants.osc
  pump : t.pae.grants.pump = s.pae.grants.pump
  drive : t.alc.compressorDrive = false
  boiler : t.blc.state = if s.blc.state = .locked then .locked else .cold
  cause : t.blc.cause = s.blc.cause
  pointer : t.blc.pointer = s.blc.pointer
  produced : t.blc.produced = s.blc.produced

/-- A boiler moved alone leaves each bay as the restart left it. -/
theorem BayRestarted.cooled {b : Bay} {s w t : State} (h : BayRestarted b s w) (ht : BoilerAlone (restartReady w) t) :
    BayRestarted b s t where
  srs := by rw [ht.plant.srs]; exact h.srs
  oau := by rw [ht.plant.oau]; exact h.oau
  bsq := by rw [ht.bsq]; exact h.bsq
  parked := by rw [ht.alc]; exact h.parked
  auto := by rw [ht.alc]; exact h.auto
  demand := by rw [ht.alc]; exact h.demand
  heat := by rw [HeatOff, ht.aux, ht.alc]; exact h.heat
  panel := by rw [ht.panels]; exact h.panel

/-- Power and pump mode are all that is changed by then. -/
theorem restartReady_kept (w : State) :
    (restartReady w).pending = w.pending ∧ (restartReady w).fitted = w.fitted ∧ (restartReady w).pli = w.pli ∧
    (restartReady w).snu = w.snu ∧ (restartReady w).pts = w.pts ∧ (restartReady w).freeCount = w.freeCount := by
  simp only [restartReady, restartPae, formEffective, withdrawCompressor, withdrawBoiler, compressorOff, and_self]

theorem restartCooled (s : State) : PlantRestarted s (coolBoiler (restartReady (forBays restartBay s))) := by
  have hbay := forBays_restartBay s
  obtain ⟨hpending, hfitted, hmoc, hpli, hsup, hsnu, hpts, hfree⟩ := forBays_frame (fun b s => restartBay_frame s b) s
  obtain ⟨hfan, hosc, hpump, htimer⟩ := forBays_charges (fun b s => restartBay_frame s b) s
  have hblc : (forBays restartBay s).blc = { s.blc with valves := (forBays restartBay s).blc.valves } :=
    forBays_blcKept _ (fun b s => restartBay_frame s b) s
  have hcool := coolBoiler_alone (restartReady_idle s)
  have hcold := coolBoiler_state (restartReady (forBays restartBay s))
  generalize forBays restartBay s = w at *
  obtain ⟨hcause, hpointer, hproduced⟩ := hcool.blc
  obtain ⟨hfans, hoscs, hpumps⟩ := hcool.charges
  generalize coolBoiler (restartReady w) = t at *
  obtain ⟨kpending, kfitted, kpli, ksnu, kpts, kfree⟩ := restartReady_kept w
  exact {
    bay := fun b => (hbay b).cooled hcool
    pending := hcool.plant.pending.trans (kpending.trans hpending)
    fitted := hcool.plant.fitted.trans (kfitted.trans hfitted)
    moc := by rw [hcool.plant.moc, ← hmoc]; rfl
    pli := hcool.plant.pli.trans (kpli.trans hpli)
    present := by rw [hcool.plant.present, ← hsup]; rfl
    mask := by rw [hcool.mask, ← hsup]; rfl
    snu := hcool.plant.snu.trans (ksnu.trans hsnu)
    pts := hcool.plant.pts.trans (kpts.trans hpts)
    freeCount := hcool.plant.freeCount.trans (kfree.trans hfree)
    roundTimer := hcool.plant.roundTimer.trans htimer
    budget := hcool.plant.budget
    effective := by rw [hcool.plant.effective, ← hsup]; rfl
    on := hcool.compressor.on
    minOn := hcool.compressor.minOn
    minOff := hcool.compressor.minOff
    shed := hcool.compressor.shed
    boilerGrant := hcool.grant rfl
    compressorGrant := hcool.compressor.grant
    fan := hfans.trans hfan
    osc := hoscs.trans hosc
    pump := hpumps.trans hpump
    drive := hcool.compressor.drive
    boiler := by
      rw [hcold]
      change (if w.blc.state = _ then _ else _) = _
      rw [hblc]
    cause := by
      rw [hcause]
      change w.blc.cause = _
      rw [hblc]
    pointer := by
      rw [hpointer]
      change w.blc.pointer = _
      rw [hblc]
    produced := by
      rw [hproduced]
      change w.blc.produced = _
      rw [hblc] }

/-- Settles O13: the bays one by one, then the power part, the boiler, which meets no program, and the events. -/
theorem warmRestartClearsAndKeeps : Obligations.WarmRestartClearsAndKeeps := by
  intro noise s hA
  have hheard := heard_supervisor_eq s
  have htake := takeRequest_supervisor_plant (r := .warmRestart) noise hA rfl rfl rfl rfl
  have hperform : perform .supervisor .warmRestart (heard .supervisor s) = ownerWarmRestart (heard .supervisor s) := rfl
  rw [hperform, ownerWarmRestart, restartPlant_eq] at htake
  dsimp only at htake
  generalize heard .supervisor s = h at hheard htake
  have ht := restartCooled h
  generalize coolBoiler (restartReady (forBays restartBay h)) = t at *
  have hhpli : t.pli = { s.pli with rx := .hunt } := by rw [ht.pli, hheard]
  have hhmoc : t.moc = { s.moc with pumpMode := .auto } := by rw [ht.moc, hheard]
  have hhbsq : h.bsq = s.bsq := by rw [hheard]
  refine ⟨_, congrArg Host.Outcome.next htake, ?_, ?_, ?_, rfl, ?_, fun b => ?bay, ht.budget, ?_, ht.on, ht.minOn, ht.minOff,
    ht.shed, ?_, ht.boilerGrant, ht.compressorGrant, ?_, ?_, ?_, ht.drive, ?_, ?_, rfl, rfl, rfl, ?_, ?_, ?_, ?_, ?_, ?_, ?_⟩
  case bay =>
    have hb := ht.bay b
    have hq := hb.bsq
    have hparked := hb.parked
    rw [hhbsq] at hq hparked
    have hpanel := restartDone_panel b t
    rw [ht.fitted, hb.panel, hheard] at hpanel
    obtain ⟨hfan, hdamper, hosc⟩ := hb.auto
    simp only [respond_srs, respond_oau, respond_bsq, respond_alc, respond_pae, respond_panels]
    rw [show (restartDone t).bsq = t.bsq from rfl, show (restartDone t).alc = t.alc from rfl, hpanel, hq]
    refine ⟨hb.srs, hb.oau, rfl, rfl, rfl, rfl, fun hp => ⟨if_pos hp, if_pos hp, hparked hp⟩,
      fun hp => ⟨if_neg (by simp [hp]), if_neg (by simp [hp])⟩, hfan, hdamper, hosc, hb.demand, hb.heat.2, hb.heat.1,
      ?_, ?_, fun hf => ?_⟩
    · dsimp only
      split <;> rfl
    · dsimp only
      split <;> rfl
    · rw [if_pos hf]
      rfl
  · change { t.moc with resetCause := .warm } = _
    rw [hhmoc]
  · have hlink : (restartDone t).pli = { t.pli with rx := .hunt } := rfl
    have hphase : (restartDone t).moc.phase = t.moc.phase := rfl
    rw [respond_pli, hlink, hphase, hhpli, hhmoc]
    rfl
  · refine ht.present.trans ?_
    rw [hheard]
  · refine ht.mask.trans ?_
    rw [hheard]
  · refine ht.effective.trans ?_
    rw [hheard]
    rfl
  · refine ht.roundTimer.trans ?_
    rw [hheard]
  · refine ht.fan.trans ?_
    rw [hheard]
  · refine ht.osc.trans ?_
    rw [hheard]
  · refine ht.pump.trans ?_
    rw [hheard]
  · refine ht.boiler.trans ?_
    rw [hheard]
  · refine ht.cause.trans ?_
    rw [hheard]
  · refine ht.pointer.trans ?_
    rw [hheard]
  · refine ht.produced.trans ?_
    rw [hheard]
  · refine ht.snu.trans ?_
    rw [hheard]
  · refine ht.pts.trans ?_
    rw [hheard]
  · refine ht.fitted.trans ?_
    rw [hheard]
  · refine ht.pending.trans ?_
    rw [hheard]
  · refine ht.freeCount.trans ?_
    rw [hheard]

end Sys2Proof.Machine
end

section
/-! The end of a step by its duration (R58, R59), and what postings and examinations leave of an outcome ring. -/

namespace Sys2Proof.Machine

section
variable (b : Bay) (s : State)

/-! ### Records already posted stay in front -/

theorem promiseStep_records (x : Context) :
    ((promiseStep b x s).oau.get b).records = (s.oau.get b).records := by rw [promiseStep_oau]

theorem startStep_records : ((startStep b s).oau.get b).records = (s.oau.get b).records := by
  have hform := startStep_form b s
  generalize startStep b s = t at hform ⊢
  cases hform with
  | none => rfl
  | starts => simp [promiseStep_records]

theorem enterStep_records (index : Nat) : ((enterStep b index s).oau.get b).records = (s.oau.get b).records := by
  have hform := enterStep_form b index s
  generalize enterStep b index s = t at hform ⊢
  cases hform with
  | none => rfl
  | waits => simp
  | starts => simp [startStep_records]

theorem acceptProgram_records (program : List StepRecord) :
    ((acceptProgram b program s).oau.get b).records = (s.oau.get b).records := by
  rw [acceptProgram_eq, (examineSteam_plantFrame _).oau, enterStep_records]
  simp [programAdmitted]

/-- An examination posts behind the records that were there. -/
theorem examineAdmission_posts :
    ∃ posted, ((examineAdmission b s).oau.get b).records = (s.oau.get b).records ++ posted := by
  obtain ⟨u, hu, hend⟩ := examineAdmission_form b s
  obtain ⟨posted, hposted⟩ := hu.posts
  rcases hend with hend | ⟨program, -, hend⟩
  · exact ⟨posted, by rw [hend, hposted]⟩
  · exact ⟨posted, by rw [hend, acceptProgram_records, hposted]⟩

/-! ### The entry of a step -/

variable {b s}

/-- A step entered has its counts at 0, whether it waits or starts (log 17). -/
theorem enterStep_context {x : Context} (index : Nat) (hx : (s.bsq.get b).context = some x) :
    ((enterStep b index s).bsq.get b).context = some (enteredContext index x) := by
  have hform := enterStep_form b index s
  generalize enterStep b index s = t at hform ⊢
  cases hform with
  | none hnone => rw [hx] at hnone; cases hnone
  | waits hy _ =>
    obtain rfl := Option.some.inj (hx.symm.trans hy)
    simp
  | starts hy _ =>
    obtain rfl := Option.some.inj (hx.symm.trans hy)
    have hstart := startStep_form b (stepEntered b index x s)
    generalize startStep b (stepEntered b index x s) = t at hstart ⊢
    cases hstart with
    | none => simp
    | @starts z c hz _ =>
      have hz : some (enteredContext index x) = some z := by simpa using hz
      obtain rfl := Option.some.inj hz
      simp [zeroStep, enteredContext]

end

/-- A record under its sequence number (R145). -/
def numbered (q : Byte) (rec : Outcome) : Outcome := { rec with sequence := q }

/-! ### The duration reached (R58) -/

/-- The bay's step timer at the clamped duration. -/
def timeUp (b : Bay) (c : StepCopy) (x : Context) (s : State) : State :=
  setContext b (some { x with stepTimer := c.duration * 1000 }) s

section
variable {b : Bay} {s : State} {x : Context} {c : StepCopy}

theorem expireStep_eq (hs : (s.bsq.get b).state = .running) (hx : (s.bsq.get b).context = some x)
    (hc : contextCopy x = some c) : expireStep b s = endStep b (durationResult c) (timeUp b c x s) := by
  have hcopy : runningCopy (s.bsq.get b) = some c := by
    rw [runningCopy, if_pos hs, currentCopy, hx]
    exact hc
  simp only [expireStep, hcopy, hx]
  rfl

theorem expireStep_else (hs : (s.bsq.get b).state ≠ .running) : expireStep b s = s := by
  have hcopy : runningCopy (s.bsq.get b) = none := if_neg hs
  simp only [expireStep, hcopy]

/-- The outcome of a step whose time is up. -/
theorem stepOutcome_timeUp (result : Result) (final : Bool) (hc : contextCopy x = some c) :
    stepOutcome b { x with stepTimer := c.duration * 1000 } result final (withdrawAux b (timeUp b c x s)) =
      { sequence := 0, result := result, final := final, tag := headTag b s, clamped := x.clamped
        stepIndex := some x.index, times := some (c.duration, x.heldTime / 1000)
        steamDg := if c.kind = .steam then some (x.delivered / 100) else none
        ends := endValues b s, reject := none, removed := none } := by
  have htime : seconds (c.duration * 1000) = c.duration := by simp [seconds]
  have hsteam : steamDecigrams { x with stepTimer := c.duration * 1000 } =
      if c.kind = .steam then some (x.delivered / 100) else none := by
    have hcopy : contextCopy { x with stepTimer := c.duration * 1000 } = some c := hc
    simp [steamDecigrams, hcopy, copyIs]
  simp only [stepOutcome, hsteam, htime]
  rfl

theorem stepNotified_records (result : Result) : ((stepNotified b result x s).oau.get b).records =
    (s.oau.get b).records ++
      (if headNotify b s then [numbered (s.oau.get b).q (stepOutcome b x result false s)] else []) := by
  unfold stepNotified
  split
  · rw [postOutcome_ring]
    rfl
  · exact (List.append_nil _).symm

theorem stepGivesWay_context (result : Result) (hx : (s.bsq.get b).context = some x) :
    ((stepGivesWay b result x s).bsq.get b).context = some (enteredContext (x.index + 1) x) :=
  enterStep_context _ (by rw [removeStep_bsq, stepNotified_bsq, withdrawAux_bsq]; exact hx)

theorem stepGivesWay_srs (result : Result) : (stepGivesWay b result x s).srs.get b = { s.srs.get b with
    records := (s.srs.get b).records.drop 1, c := (s.srs.get b).c + 1, admitted := (s.srs.get b).admitted - 1 } := by
  rw [stepGivesWay, enterStep_srs, removeStep_srs, stepNotified_srs, withdrawAux_srs]
  rfl

theorem stepGivesWay_records (result : Result) : ((stepGivesWay b result x s).oau.get b).records =
    (s.oau.get b).records ++ (if headNotify b s then
      [numbered (s.oau.get b).q (stepOutcome b x result false (withdrawAux b s))] else []) := by
  rw [stepGivesWay, enterStep_records, removeStep_oau, stepNotified_records, withdrawAux_oau]
  rfl

theorem stepGivesWay_admission (result : Result) :
    ((stepGivesWay b result x s).bsq.get b).admission = (s.bsq.get b).admission := by
  rw [stepGivesWay, enterStep_admission, removeStep_bsq, stepNotified_bsq, withdrawAux_bsq]

theorem programEnded_records (result : Result) : ((programEnded b result x s).oau.get b).records =
    (s.oau.get b).records ++
      [numbered (s.oau.get b).q (stepOutcome b x result true (withdrawAux b s))] := by
  have hidle (u : State) : (becomeIdle b u).oau = u.oau := by simp [becomeIdle]
  rw [programEnded, hidle, removeStep_oau, postOutcome_ring, withdrawAux_oau]
  rfl

end

/-- Settles O39: a final step posts and leaves the bay to admission; another gives way to the next. -/
theorem durationEndsTheStep : Obligations.DurationEndsTheStep := by
  intro b s q o r
  refine ⟨fun hs => congrArg Host.Outcome.next (expireStep_else hs), fun x c hs hx hcopy => ?_⟩
  intro result outcome
  have hc : contextCopy x = some c := hcopy
  have hstep := expireStep_eq hs hx hc
  have hq : ((timeUp b c x s).bsq.get b) = { q with context := some { x with stepTimer := c.duration * 1000 } } := by
    simp [timeUp, setContext, q]
  have hctx : ((timeUp b c x s).bsq.get b).context = some { x with stepTimer := c.duration * 1000 } := by rw [hq]
  have hout (final : Bool) : numbered ((timeUp b c x s).oau.get b).q
      (stepOutcome b { x with stepTimer := c.duration * 1000 } (durationResult c) final (withdrawAux b (timeUp b c x s))) =
        outcome final := by
    rw [stepOutcome_timeUp (durationResult c) final hc]
    rfl
  refine ⟨fun hfinal => ?_, fun hmore => ?_⟩
  · rw [endStep_of_final _ hctx (decide_eq_true hfinal)] at hstep
    obtain ⟨posted, hposted⟩ := examineAdmission_posts b
      (programEnded b (durationResult c) { x with stepTimer := c.duration * 1000 } (timeUp b c x s))
    refine ⟨_, posted, congrArg Host.Outcome.next hstep, ?_⟩
    rw [hposted, programEnded_records, List.append_assoc, hout true]
    rfl
  · have hnot : isFinalStep { x with stepTimer := c.duration * 1000 } = false := decide_eq_false (by dsimp only; omega)
    rw [endStep_of_not_final _ hctx hnot] at hstep
    have hframe := (setContext_frame b (some { x with stepTimer := c.duration * 1000 }) s).trans
      (stepGivesWay_frame b (durationResult c) { x with stepTimer := c.duration * 1000 } (timeUp b c x s))
    have hrecords := stepGivesWay_records (b := b) (s := timeUp b c x s) (x := { x with stepTimer := c.duration * 1000 })
      (durationResult c)
    refine ⟨_, _, congrArg Host.Outcome.next hstep, stepGivesWay_context _ hctx, rfl, rfl, rfl, rfl, rfl, rfl,
      stepGivesWay_srs _, ?_, ?_, ?_, fun d hd => ⟨hframe.bsq d hd, hframe.srs d hd, hframe.oau d hd⟩, hframe.snu, hframe.pts,
      hframe.moc, hframe.pli, hframe.supervisor⟩
    · rw [hrecords, hout false]
      rfl
    · rw [stepGivesWay_admission, hq]
    · exact (stepGivesWay_heatOff _ _).1

end Sys2Proof.Machine
end

section
/-! The end of a park by its timer or by a sample (R69 to R71). -/

namespace Sys2Proof.Machine

/-! ### An examination repeated does nothing more (R33, R34) -/

section
variable {b : Bay} {s : State}

theorem changeHolds_inProgress (c : Bay) (h : HoldSet) (hs : inProgress (s.bsq.get b) = true) :
    inProgress ((changeHolds c h s).bsq.get b) = true := by
  by_cases hc : b = c
  · subst hc
    have hform := changeHolds_form b h s
    generalize changeHolds b h s = t at hform ⊢
    cases hform with
    | same => exact hs
    | kept => simpa [inProgress] using hs
    | held => simp [inProgress]
    | released => simp [inProgress]
  · rw [(changeHolds_frame c h s).bsq b hc]
    exact hs

theorem reholdSteam_inProgress (c : Bay) (s : State) (hs : inProgress (s.bsq.get b) = true) :
    inProgress ((reholdSteam c s).bsq.get b) = true :=
  (rehold_keeps (p := fun t => inProgress (t.bsq.get b) = true) (fun c h _ ht => changeHolds_inProgress c h ht) c hs).2.1

theorem startStep_inProgress (hcopy : currentCopy (s.bsq.get b) ≠ none) :
    inProgress ((startStep b s).bsq.get b) = true := by
  have hform := startStep_form b s
  generalize startStep b s = t at hform ⊢
  cases hform with
  | none hc => exact absurd hc hcopy
  | @starts x c hx hc => by_cases he : holdsEmpty (formHolds b x c s) <;> simp [inProgress, he]

theorem enterStep_inProgress {x : Context} {index : Nat} (hx : (s.bsq.get b).context = some x)
    (hcopy : contextCopy (enteredContext index x) ≠ none) : inProgress ((enterStep b index s).bsq.get b) = true := by
  have hform := enterStep_form b index s
  generalize enterStep b index s = t at hform ⊢
  cases hform with
  | none hnone => rw [hx] at hnone; cases hnone
  | waits => simp [inProgress]
  | starts hy _ =>
    obtain rfl : x = _ := Option.some.inj (hx.symm.trans hy)
    exact startStep_inProgress (by simpa [currentCopy] using hcopy)

theorem acceptProgram_inProgress {program : List StepRecord} (h : Acceptable b program s) :
    inProgress ((acceptProgram b program s).bsq.get b) = true := by
  obtain ⟨x, hx, -, -, hcopy⟩ := h.copy
  rw [acceptProgram_eq]
  exact examineSteam_bay (P := fun q => inProgress q = true) reholdSteam_inProgress (enterStep_inProgress hx hcopy)

theorem not_idle_of_inProgress {q : Bsq} (h : inProgress q = true) : q.state ≠ .idle := by
  intro hs
  simp [inProgress, hs] at h

theorem admitPrograms_examined (n : Nat) (b : Bay) (s : State) (hn : freeEntries (s.oau.get b) < n) :
    examineAdmission b (admitPrograms n b s) = admitPrograms n b s := by
  induction n generalizing s with
  | zero => omega
  | succ n ih =>
    rw [admitPrograms]
    split
    next ha =>
      split
      next program hp =>
        split
        next i reason tag hf =>
          have hfree : 1 ≤ freeEntries (s.oau.get b) := by
            simp only [admissible, Bool.and_eq_true, decide_eq_true_eq] at ha
            exact ha.2
          exact ih _ (by rw [rejectProgram_entries]; omega)
        next hf =>
          exact examineAdmission_of_not_idle (not_idle_of_inProgress (acceptProgram_inProgress ⟨ha, hp, hf⟩))
      next hp => exact examineAdmission_no_program hp
    next ha => exact examineAdmission_none b s (Bool.eq_false_iff.mpr ha)

theorem examineAdmission_again (b : Bay) (s : State) : examineAdmission b (examineAdmission b s) = examineAdmission b s :=
  admitPrograms_examined _ b s (by
    have hm : freeEntries (s.oau.get b) ≤ outcomePlaces := by
      simp only [freeEntries]
      omega
    omega)

end

/-! ### The park closed (R70, R71) -/

section
variable {b : Bay} {s : State}

theorem postOutcome_pendingSet (role : PostRole) (rec : Outcome) (hf : s.fitted.get b = true) :
    ((postOutcome b role rec s).panels.get b).pending =
      (s.panels.get b).pending ||| if (s.oau.get b).records = [] then 0x0001#16 else 0#16 := by
  by_cases h : (s.oau.get b).records = []
  · rw [postOutcome_of_empty role rec h, if_pos h]
    exact raisePanel_pendingSet .outcomeReady hf
  · rw [postOutcome_of_nonempty role rec h, if_neg h, BitVec.or_zero]
    rfl

theorem runningCopy_of_not_running {q : Bsq} (h : q.state ≠ .running) : runningCopy q = none := if_neg h

theorem driveBay_blc_of_not_running (h : (s.bsq.get b).state ≠ .running) :
    (driveBay b s).blc = { s.blc with valves := s.blc.valves.set b false } := by
  have hshut : valveOpen b (formDemand b (driveAir b s)) = false := by
    have hcopy : runningCopy (s.bsq.get b) = none := runningCopy_of_not_running h
    simp [valveOpen, hcopy, copyIs]
  change { s.blc with valves := s.blc.valves.set b (valveOpen b (formDemand b (driveAir b s))) } = _
  rw [hshut]

theorem closeProgram_blc (b : Bay) (s : State) : (closeProgram b s).blc = s.blc := by
  unfold closeProgram
  split
  · split
    · exact postOutcome_blc b _ _ s
    · rfl
  · rfl

end

/-- What the end of a park leaves: the bay without its program, outputs and valve as the sequencer then has them (R70, R71). -/
structure ParkClosed (b : Bay) (w u : State) : Prop where
  bsq : u.bsq = w.bsq.set b { w.bsq.get b with
    state := if (w.bsq.get b).faultAfterPark then .faulted else .idle
    context := none, parkTimer := 0, parkMinTaken := false, faultAfterPark := false }
  frame : BayFrame b w u
  pae : u.pae = w.pae
  blc : u.blc = { w.blc with valves := w.blc.valves.set b false }
  fan : (u.alc.bays.get b).fan = driveServiced 0 (w.alc.bays.get b).fan
  damper : (u.alc.bays.get b).damper = driveServiced .closed (w.alc.bays.get b).damper
  osc : (u.alc.bays.get b).osc = driveServiced 0 (w.alc.bays.get b).osc
  demand : (u.alc.bays.get b).demand = 0

/-- The state in which the outputs of a bay whose park ends are driven. -/
def parkPut (b : Bay) (w : State) : State :=
  raisePanel b .stateChange <| setBsq b
    { w.bsq.get b with
      state := if (w.bsq.get b).faultAfterPark then .faulted else .idle
      context := none, parkTimer := 0, parkMinTaken := false, faultAfterPark := false } (closeProgram b w)

section
variable {b : Bay} {w : State}

theorem parkEnded_eq (b : Bay) (w : State) : parkEnded b w = driveBay b (parkPut b w) := by
  unfold parkEnded parkPut
  rw [closeProgram_bsq]

theorem parkPut_bsq : (parkPut b w).bsq = w.bsq.set b { w.bsq.get b with
    state := if (w.bsq.get b).faultAfterPark then .faulted else .idle
    context := none, parkTimer := 0, parkMinTaken := false, faultAfterPark := false } := by
  rw [parkPut, raisePanel_bsq, setBsq_bsq, closeProgram_bsq]

theorem parkPut_alc : (parkPut b w).alc = w.alc := by
  rw [parkPut, raisePanel_alc, setBsq_alc, closeProgram_alc]

theorem parkPut_pendingSet (hf : w.fitted.get b = true) : ((parkPut b w).panels.get b).pending =
    ((closeProgram b w).panels.get b).pending ||| 0x0002#16 := by
  rw [parkPut, raisePanel_pendingSet .stateChange (by rw [setBsq_fitted, (closeProgram_frame b w).fitted]; exact hf)]
  rfl

theorem parkEnded_closed (b : Bay) (w : State) : ParkClosed b w (parkEnded b w) := by
  have houtputs := driveBay_outputs b (parkPut b w)
  rw [← parkEnded_eq] at houtputs
  have hcontext : ((parkPut b w).bsq.get b).context = none := by rw [parkPut_bsq, PerBay.get_set_same]
  have hstate : ((parkPut b w).bsq.get b).state = .faulted ∨ ((parkPut b w).bsq.get b).state = .idle := by
    rw [parkPut_bsq, PerBay.get_set_same]
    exact ite_eq_or_eq _ _ _
  have hvalue : autoFan ((parkPut b w).bsq.get b) = 0 ∧ autoDamper ((parkPut b w).bsq.get b) = .closed ∧
      autoOsc ((parkPut b w).bsq.get b) = 0 := by
    rcases hstate with hs | hs <;> simp [autoFan, autoDamper, autoOsc, hs]
  obtain ⟨hfan, hdamper, hosc⟩ := hvalue
  rw [hfan, hdamper, hosc, parkPut_alc, auxDemand_of_no_context hcontext] at houtputs
  exact {
    bsq := by rw [parkEnded_eq, driveBay_bsq, parkPut_bsq]
    frame := parkEnded_frame b w
    pae := parkEnded_pae b w
    blc := by
      rw [parkEnded_eq, driveBay_blc_of_not_running (by rcases hstate with hs | hs <;> simp [hs]), parkPut, raisePanel_blc,
        setBsq_blc, closeProgram_blc]
    fan := by rw [houtputs]
    damper := by rw [houtputs]
    osc := by rw [houtputs]
    demand := by rw [houtputs] }

theorem parkEnded_rings : (parkEnded b w).srs = (closeProgram b w).srs ∧ (parkEnded b w).oau = (closeProgram b w).oau := by
  rw [parkEnded_eq, driveBay_srs, driveBay_oau]
  simp [parkPut]

/-- A park with a program posts its final outcome and removes what is left of it. -/
theorem parkEnded_program {x : Context} {r : ParkResult} (hx : (w.bsq.get b).context = some x)
    (hr : x.pendingResult = some r) :
    (parkEnded b w).oau = w.oau.set b { w.oau.get b with
      records := (w.oau.get b).records ++
        [numbered (w.oau.get b).q (stepOutcome b x (parkResult r) true w)]
      q := (w.oau.get b).q + 1, reservation := false } ∧
    (parkEnded b w).srs = w.srs.set b { w.srs.get b with
      records := (w.srs.get b).records.drop (w.srs.get b).admitted
      c := (w.srs.get b).c + BitVec.ofNat 8 (w.srs.get b).admitted, admitted := 0 } ∧
    (w.fitted.get b = true → ((parkEnded b w).panels.get b).pending =
      (w.panels.get b).pending ||| if (w.oau.get b).records = [] then 0x0003#16 else 0x0002#16) := by
  obtain ⟨hsrs, hoau⟩ := closeProgram_rings b w hx hr
  have hframe := closeProgram_frame b w
  refine ⟨?_, ?_, fun hf => ?_⟩
  · rw [parkEnded_rings.2]
    refine PerBay.ext_get fun c => ?_
    by_cases hc : c = b
    · subst hc
      rw [PerBay.get_set_same, hoau, postOutcome_ring]
      rfl
    · rw [PerBay.get_set_other _ _ hc, hframe.oau c hc]
  · rw [parkEnded_rings.1]
    refine PerBay.ext_get fun c => ?_
    by_cases hc : c = b
    · subst hc
      rw [PerBay.get_set_same, hsrs]
    · rw [PerBay.get_set_other _ _ hc, hframe.srs c hc]
  · have hpanels : (closeProgram b w).panels = (postOutcome b .final (stepOutcome b x (parkResult r) true w) w).panels := by
      simp only [closeProgram, hx, hr]
      rfl
    rw [parkEnded_eq, driveBay_panels, parkPut_pendingSet hf, hpanels, postOutcome_pendingSet _ _ hf, BitVec.or_assoc]
    split <;> rfl

theorem parkEnded_empty (hx : (w.bsq.get b).context = none) :
    (parkEnded b w).oau = w.oau ∧ (parkEnded b w).srs = w.srs ∧ (w.fitted.get b = true →
      ((parkEnded b w).panels.get b).pending = (w.panels.get b).pending ||| 0x0002#16) := by
  have hclose := closeProgram_none b w hx
  refine ⟨?_, ?_, fun hf => ?_⟩
  · rw [parkEnded_rings.2, hclose]
  · rw [parkEnded_rings.1, hclose]
  · rw [parkEnded_eq, driveBay_panels, parkPut_pendingSet hf, hclose]

end

/-- The park's own timer and mark, and the demand formed anew, make no difference to how it ends. -/
def parkReadied (b : Bay) (timer : Nat) (taken : Bool) (demand : Nat) (w : State) : State :=
  { w with
    bsq := w.bsq.set b { w.bsq.get b with parkTimer := timer, parkMinTaken := taken }
    alc := { w.alc with bays := w.alc.bays.set b { w.alc.bays.get b with demand := demand } } }

theorem parkCool_iff (b : Bay) (s : State) : parkCool b s = true ↔
    ∃ v, (s.snu.temps.get b).last = some v ∧ (s.snu.temps.get b).state = .valid ∧ v ≤ 40 := by
  unfold parkCool
  split
  next v hstate hlast =>
    rw [hlast, hstate, decide_eq_true_eq]
    exact ⟨fun h => ⟨v, rfl, rfl, h⟩, fun ⟨u, hu, _, h⟩ => by cases hu; exact h⟩
  next hno =>
    refine ⟨fun h => absurd h Bool.false_ne_true, fun ⟨v, hlast, hstate, _⟩ => ?_⟩
    exact (hno v hstate hlast).elim

theorem parkReadied_timer (b : Bay) (timer : Nat) (taken : Bool) (s : State) :
    parkReadied b timer taken (s.alc.bays.get b).demand s =
      setBsq b { s.bsq.get b with parkTimer := timer, parkMinTaken := taken } s := by
  have hsame : s.alc.bays.set b { s.alc.bays.get b with demand := (s.alc.bays.get b).demand } = s.alc.bays :=
    PerBay.set_get _ b
  rw [parkReadied, hsame]
  rfl

theorem parkReadied_demand (b : Bay) (s : State) :
    parkReadied b (s.bsq.get b).parkTimer (s.bsq.get b).parkMinTaken (auxDemand b s) s = formDemand b s := by
  unfold parkReadied formDemand setOutputs
  dsimp only
  rw [PerBay.set_get]

theorem expirePark_else {b : Bay} {s : State} (limit : ParkLimit) (hs : (s.bsq.get b).state ≠ .parking) :
    expirePark b limit s = s := if_neg hs

theorem expirePark_minimum {b : Bay} {s : State} (hs : (s.bsq.get b).state = .parking) :
    expirePark b .minimum s = parkMinimum b s := if_pos hs

theorem expirePark_maximum {b : Bay} {s : State} (hs : (s.bsq.get b).state = .parking) :
    expirePark b .maximum s = parkMaximum b s := if_pos hs

theorem parkMinimum_eq {b : Bay} {s : State} (ht : (s.bsq.get b).parkMinTaken = false) : parkMinimum b s =
    let u := setBsq b { s.bsq.get b with parkTimer := max (s.bsq.get b).parkTimer 20000, parkMinTaken := true } s
    if parkCool b s then endPark b u else u := if_neg (by simp [ht])

/-! ### Samples of a parking bay (R69, R137) -/

theorem invalidSample_not_valid (c : Channel) : (invalidSample c).state ≠ .valid := by
  cases hc : c.state with
  | valid => simp [invalidSample_of_valid hc]
  | fault => simp [invalidSample_of_fault hc, hc]
  | unknown =>
    obtain ⟨-, hsame, hfault⟩ := invalidSample_of_unknown_or_stale (.inl hc)
    rcases lt_or_ge c.invalidRun 4 with h | h
    · simp [hsame h, hc]
    · simp [hfault h]
  | stale =>
    obtain ⟨-, hsame, hfault⟩ := invalidSample_of_unknown_or_stale (.inr hc)
    rcases lt_or_ge c.invalidRun 4 with h | h
    · simp [hsame h, hc]
    · simp [hfault h]

/-- A valid sample leaves its channel VALID, unless it is in FAULT with fewer than two valid ones before it. -/
theorem channelSample_valid {ch : Analog} {raw : BitVec 10} {v : Nat} {c : Channel} (hv : convert ch raw = some v) :
    (c.state ≠ .fault ∨ 2 ≤ c.validRun → (channelSample ch raw c).state = .valid) ∧
    (c.state = .fault → c.validRun < 2 → (channelSample ch raw c).state = .fault) := by
  rw [channelSample_of_valid hv]
  refine ⟨fun hc => ?_, fun hf hrun => ((validSample_of_fault (c := withCode raw c) v hf).2.1 hrun).1⟩
  by_cases hfault : c.state = .fault
  · exact ((validSample_of_fault (c := withCode raw c) v hfault).2.2 (hc.resolve_left (absurd hfault))).1
  · exact (validSample_of_not_fault (c := withCode raw c) v hfault).1

section
variable {b : Bay} {s : State} {old new : Channel}

theorem compareGoal_of_not_running (kind : StepKind) (hs : (s.bsq.get b).state ≠ .running) :
    compareGoal kind b new s = s := by
  have hcopy := runningCopy_of_not_running hs
  unfold compareGoal
  rw [hcopy]

theorem temperatureTaken_of_valid (hs : (s.bsq.get b).state ≠ .running) (hnew : new.state = .valid) :
    temperatureTaken b old new s = formDemand b s := by
  have hfault : reachesFault old new = false := by simp [reachesFault, hnew]
  have hleaves : leavesValid old new = false := by simp [leavesValid, hnew]
  have hlimit : atLimit b new s = false := by
    unfold atLimit
    rw [runningCopy_of_not_running hs]
  simp [temperatureTaken, channelFault, hfault, hleaves, hlimit]

/-- A conversion leaves a parking bay parking with its program; only a channel reaching FAULT marks the bay (R67). -/
theorem temperatureTaken_parking (old new : Channel) (hs : (s.bsq.get b).state = .parking) :
    let t := temperatureTaken b old new s
    t.srs = s.srs ∧ t.oau = s.oau ∧ t.snu = s.snu ∧ (t.bsq.get b).state = .parking ∧
      (t.bsq.get b).context = (s.bsq.get b).context ∧ (reachesFault old new = false → t.bsq = s.bsq) := by
  have hfault : let t := channelFault b old new s
      t.srs = s.srs ∧ t.oau = s.oau ∧ t.snu = s.snu ∧ (t.bsq.get b).state = .parking ∧
        (t.bsq.get b).context = (s.bsq.get b).context ∧ (reachesFault old new = false → t.bsq = s.bsq) := by
    unfold channelFault
    split
    next hr =>
      have hmark : baySensorFault b (raiseSup .sensorFault s) =
          setBsq b { s.bsq.get b with faultAfterPark := true } (raiseSup .sensorFault s) := by
        simp [baySensorFault, hs]
      rw [hmark]
      simp [hs, hr]
    next => exact ⟨rfl, rfl, rfl, hs, rfl, fun _ => rfl⟩
  unfold temperatureTaken
  generalize channelFault b old new s = u at hfault ⊢
  dsimp only at hfault ⊢
  split
  · exact hfault
  · exact hfault

theorem channelBack_parking (hs : (s.bsq.get b).state = .parking) : channelBack b old new s = s := by
  unfold channelBack
  split
  · exact examineAdmission_of_not_idle (by simp [hs])
  · rfl

/-- The end of a park has examined admission already (R34). -/
theorem channelBack_endPark : channelBack b old new (endPark b s) = endPark b s := by
  unfold channelBack
  split
  next =>
    rw [endPark_eq]
    split
    next hf =>
      refine examineAdmission_of_not_idle ?_
      rw [(parkEnded_closed b s).bsq, PerBay.get_set_same, if_pos hf]
      simp
    next => exact examineAdmission_again b _
  next => rfl

end

/-- Settles O41: the timer and a later cool sample close the park; any other conversion leaves the bay parking. -/
theorem parkTimerEndsThePark : Obligations.ParkTimerEndsThePark := by
  intro b limit raw s q next cool closes ends
  have hcloses {w : State} (timer : Nat) (taken : Bool) (demand : Nat) (hq : w.bsq = s.bsq) :
      closes w (parkEnded b (parkReadied b timer taken demand w)) := by
    obtain ⟨v, hv⟩ : ∃ v, v = parkReadied b timer taken demand w := ⟨_, rfl⟩
    have hvq : v.bsq.get b = { q with parkTimer := timer, parkMinTaken := taken } := by
      rw [hv, parkReadied, PerBay.get_set_same, hq]
    have hvbsq : v.bsq = s.bsq.set b { q with parkTimer := timer, parkMinTaken := taken } := by
      rw [hv, parkReadied, hq]
    have hvout : v.alc.bays.get b = { w.alc.bays.get b with demand := demand } := by
      rw [hv, parkReadied, PerBay.get_set_same]
    have hvother (d : Bay) (hd : d ≠ b) : v.alc.bays.get d = w.alc.bays.get d := by
      rw [hv, parkReadied, PerBay.get_set_other _ _ hd]
    have hclosed := parkEnded_closed b v
    have hbsq := hclosed.bsq
    rw [hvq, hvbsq, PerBay.set_set] at hbsq
    have hprogram {x : Context} {r : ParkResult} (hx : q.context = some x) (hr : x.pendingResult = some r) :=
      parkEnded_program (b := b) (w := v) (x := x) (r := r) (by rw [hvq]; exact hx) hr
    have hempty (hx : q.context = none) := parkEnded_empty (b := b) (w := v) (by rw [hvq]; exact hx)
    obtain ⟨hfan, hdamper, hosc⟩ := (⟨hclosed.fan, hclosed.damper, hclosed.osc⟩ : _ ∧ _ ∧ _)
    rw [hvout] at hfan hdamper hosc
    have hframe := hclosed.frame
    rw [← hv]
    refine ⟨hbsq, fun x result hx hr => ?_, fun hx => ?_, fun hm => hfan.trans (driveServiced_auto _ hm),
      fun hm => hdamper.trans (driveServiced_auto _ hm), fun hm => hosc.trans (driveServiced_auto _ hm), hclosed.demand,
      ?_, ?_, ?_, ?_, ?_, ?_, ?_, ?_, ?_, fun d hd => ⟨?_, (hframe.outputs d hd).trans (hvother d hd)⟩⟩
    · have h := hprogram hx hr
      rw [hv] at h ⊢
      exact h
    · have h := hempty hx
      rw [hv] at h ⊢
      exact h
    · rw [hclosed.blc, hv]
      rfl
    · rw [hclosed.pae, hv]
      rfl
    · rw [hframe.snu, hv]
      rfl
    · rw [hframe.pts, hv]
      rfl
    · rw [hframe.moc, hv]
      rfl
    · rw [hframe.pli, hv]
      rfl
    · rw [hframe.supervisor, hv]
      rfl
    · rw [hframe.fitted, hv]
      rfl
    · rw [hframe.pending, hv]
      rfl
    · rw [hframe.panels d hd, hv]
      rfl
  have hcool (u : State) (hu : u.snu = s.snu) : parkCool b u = true ↔ cool := by
    rw [parkCool_iff, hu]
  have hends {w u : State} (hu : closes w u) (t : State) (ht : t = if q.faultAfterPark then u else examineAdmission b u) :
      ends w t := ⟨u, hu, ht⟩
  have htimer (timer : Nat) (taken : Bool) :
      ends s (endPark b (setBsq b { q with parkTimer := timer, parkMinTaken := taken } s)) := by
    refine hends (hcloses (w := s) timer taken (s.alc.bays.get b).demand rfl) _ ?_
    rw [parkReadied_timer, endPark_eq]
    have hq : ((setBsq b { q with parkTimer := timer, parkMinTaken := taken } s).bsq.get b).faultAfterPark =
        q.faultAfterPark := by simp
    rw [hq]
  have hexec : exec (.parkTimer b limit) s = .next (expirePark b limit s) := rfl
  refine ⟨fun hs => ?_, fun hs hl ht => ?_, fun hs hl ht hnot => ?_, fun hs hend => ?_, fun hs hf hphase => ?_⟩
  · exact hexec.trans (by rw [expirePark_else limit hs])
  · refine hexec.trans ?_
    rw [hl, expirePark_minimum hs, parkMinimum, if_pos ht]
  · refine hexec.trans ?_
    rw [hl, expirePark_minimum hs, parkMinimum_eq ht]
    exact congrArg Host.Outcome.next (if_neg fun h => hnot ((hcool s rfl).mp h))
  · cases hl : limit with
    | maximum =>
      refine ⟨_, hexec.trans ?_, htimer 180000 true⟩
      rw [hl, expirePark_maximum hs]
      rfl
    | minimum =>
      obtain ⟨ht, hc⟩ := hend.resolve_left (by simp [hl])
      refine ⟨_, hexec.trans ?_, htimer (max q.parkTimer 20000) true⟩
      rw [hl, expirePark_minimum hs, parkMinimum_eq ht]
      exact congrArg Host.Outcome.next (if_pos ((hcool s rfl).mpr hc))
  · intro c
    obtain ⟨u, hu⟩ : ∃ u, u = withConversion (.bayTemperature b) raw s := ⟨_, rfl⟩
    obtain ⟨new, hnew⟩ : ∃ new, new = channelSample (.bayTemperature b) raw c := ⟨_, rfl⟩
    have htake : takeAnalog (.bayTemperature b) raw s =
        channelBack b c new (parkSample b (compareGoal .cool b new (temperatureTaken b c new u))) := by
      rw [hu, hnew]
      rfl
    have hus : (u.bsq.get b).state = .parking := by
      rw [hu]
      exact hs
    have hgot := exec_analogSample_sampled (ch := .bayTemperature b) (raw := raw) hphase hf
    rw [htake] at hgot
    obtain ⟨hsrs, hoau, hsnu, hstate, hcontext, hbsq⟩ := temperatureTaken_parking c new hus
    have htemp : u.snu.temps.get b = new := by
      rw [hu, hnew]
      exact withConversion_channelOf_same (ch := .bayTemperature b)
    rw [compareGoal_of_not_running _ (by simp [hstate])] at hgot
    refine ⟨_, hgot, fun v hv => ⟨fun hcold htime hchannel => ?_, fun hno => ?_⟩, fun hnone => ?_⟩
    · have hvalid : new.state = .valid := by
        rw [hnew]
        exact (channelSample_valid hv).1 hchannel
      have hlast : new.last = some v := by rw [hnew, channelSample_of_valid hv, validSample_last]
      have htaken := temperatureTaken_of_valid (old := c) (s := u) (b := b) (by simp [hus]) hvalid
      rw [htaken] at hsnu ⊢
      have hclose : closes u (parkEnded b (formDemand b u)) := by
        rw [← parkReadied_demand]
        exact hcloses _ _ _ (by rw [hu]; rfl)
      have hsample : parkSample b (formDemand b u) = endPark b (formDemand b u) := by
        refine if_pos ⟨hus, ?_, (parkCool_iff b _).mpr ⟨v, ?_, ?_, hcold⟩⟩
        · rw [formDemand_bsq, hu]
          exact htime
        · rw [formDemand_snu, htemp, hlast]
        · rw [formDemand_snu, htemp, hvalid]
      rw [hsample, channelBack_endPark]
      have hkept : (endPark b (formDemand b u)).snu = u.snu := (endPark_kept b (formDemand b u)).snu
      have hw : { s with snu := (endPark b (formDemand b u)).snu } = u := by
        rw [hkept, hu]
        rfl
      rw [hw]
      refine hends hclose _ ?_
      rw [endPark_eq, formDemand_bsq, hu]
      rfl
    · have hlast : new.last = some v := by rw [hnew, channelSample_of_valid hv, validSample_last]
      have hfault : reachesFault c new = false := by
        by_cases hc : c.state = .fault
        · simp [reachesFault, hc]
        · simp [reachesFault, hnew, (channelSample_valid hv).1 (.inl hc)]
      have hnot : parkSample b (temperatureTaken b c new u) = temperatureTaken b c new u := by
        refine if_neg fun ⟨_, htime, hcold⟩ => ?_
        obtain ⟨w, hw, hvalid, hle⟩ := (parkCool_iff b _).mp hcold
        rw [hsnu, htemp] at hw hvalid
        obtain rfl : v = w := Option.some.inj (hlast.symm.trans hw)
        rw [hbsq hfault, hu] at htime
        have htime : 20000 ≤ q.parkTimer := htime
        rcases hno with h | h | ⟨hc, hrun⟩
        · omega
        · omega
        · rw [hnew, (channelSample_valid hv).2 hc hrun] at hvalid
          cases hvalid
      rw [hnot, channelBack_parking hstate, hbsq hfault, hsrs, hoau, hu]
      exact ⟨rfl, rfl, rfl⟩
    · have hinvalid : new.state ≠ .valid := by
        rw [hnew, channelSample_of_invalid hnone]
        exact invalidSample_not_valid _
      rw [parkSample_of_not_valid (by rw [hsnu, htemp]; exact hinvalid), channelBack_of_not_valid hinvalid]
      rw [hsrs, hoau, hcontext, hu]
      exact ⟨rfl, rfl, hu ▸ hstate, rfl⟩

end Sys2Proof.Machine
end

section
/-! Validation and clamping, record by record (R15, R18 to R20). -/

namespace Sys2Proof.Machine

/-! ### Kinds -/

theorem kindOfCode_kindCode (k : StepKind) : kindOfCode (kindCode k) = some k := by cases k <;> rfl

theorem kindOfCode_eq_some {c : Byte} {k : StepKind} : kindOfCode c = some k ↔ c = kindCode k := by
  refine ⟨fun h => ?_, fun h => h ▸ kindOfCode_kindCode k⟩
  unfold kindOfCode at h
  split at h
  case h_6 => cases h
  all_goals
    cases h
    exact BitVec.eq_of_toNat_eq ‹_›

theorem kindOfCode_eq_none {c : Byte} : kindOfCode c = none ↔ c.toNat = 0 ∨ 5 < c.toNat := by
  constructor
  · intro h
    by_contra hc
    have hlow : 1 ≤ c.toNat ∧ c.toNat ≤ 5 := by omega
    obtain ⟨n, hn⟩ : ∃ n, n = c.toNat := ⟨_, rfl⟩
    rw [kindOfCode, ← hn] at h
    rw [← hn] at hlow
    obtain ⟨h1, h5⟩ := hlow
    interval_cases n <;> cases h
  · intro h
    cases hk : kindOfCode c with
    | none => rfl
    | some k =>
      rw [kindOfCode_eq_some.mp hk] at h
      cases k <;> revert h <;> decide

/-! ### The copies of a program that passes -/

/-- A step that passes its checks has a kind and a VALID profile, of which its copy is made. -/
def ClampedTo (table : ProfileTable) (x : StepRecord) (c : StepCopy) : Prop :=
  ∃ k p, x.kind = kindCode k ∧ profileOf table x = some p ∧ c = clampStep k p x

theorem clampProgram_copies {table : ProfileTable} {rs : List StepRecord} (h : ∀ x ∈ rs, stepFailure table x = none) :
    List.Forall₂ (ClampedTo table) rs (clampProgram table rs).1 := by
  induction rs with
  | nil => exact .nil
  | cons r rest ih =>
    obtain ⟨k, p, hk, hp⟩ := stepFailure_none (h r (by simp))
    have hrest := ih fun x hx => h x (by simp [hx])
    simp only [clampProgram, hk, hp]
    exact .cons ⟨k, p, kindOfCode_eq_some.mp hk, hp, rfl⟩ hrest

theorem clampProgram_clamped {table : ProfileTable} {rs : List StepRecord} (h : ∀ x ∈ rs, stepFailure table x = none) :
    (clampProgram table rs).2 = true ↔
      ∃ x ∈ rs, ∃ k p, x.kind = kindCode k ∧ profileOf table x = some p ∧ stepClamped k p x = true := by
  induction rs with
  | nil => simp [clampProgram]
  | cons r rest ih =>
    obtain ⟨k, p, hk, hp⟩ := stepFailure_none (h r (by simp))
    have hrest := ih fun x hx => h x (by simp [hx])
    simp only [clampProgram, hk, hp, Bool.or_eq_true, hrest, List.mem_cons, exists_eq_or_imp]
    refine or_congr ⟨fun hc => ⟨k, p, kindOfCode_eq_some.mp hk, rfl, hc⟩, fun ⟨j, u, hj, hu, hc⟩ => ?_⟩ Iff.rfl
    obtain rfl : k = j := Option.some.inj (hk.symm.trans (kindOfCode_eq_some.mpr hj))
    obtain rfl : p = u := Option.some.inj hu
    exact hc

/-- Copy i is made of record i. -/
theorem clampProgram_copy {table : ProfileTable} {rs : List StepRecord} (h : ∀ x ∈ rs, stepFailure table x = none) {i : Nat}
    {x : StepRecord} (hx : rs[i]? = some x) : ∃ c, (clampProgram table rs).1[i]? = some c ∧ ClampedTo table x c := by
  have hall := clampProgram_copies h
  generalize (clampProgram table rs).1 = cs at hall
  induction hall generalizing i with
  | nil => simp at hx
  | @cons r c rest cs hrc _ ih =>
    cases i with
    | zero =>
      obtain rfl : r = x := by simpa using hx
      exact ⟨c, rfl, hrc⟩
    | succ i => simpa using ih (fun y hy => h y (by simp [hy])) (by simpa using hx)

theorem clampStep_kind (k : StepKind) (p : Profile) (x : StepRecord) : (clampStep k p x).kind = k := rfl

/-- A program has a STEAM copy exactly where a record of it is a STEAM step (R97). -/
theorem clampProgram_any_steam {table : ProfileTable} {rs : List StepRecord} (h : ∀ x ∈ rs, stepFailure table x = none) :
    ((clampProgram table rs).1.any fun c => decide (c.kind = .steam)) = true ↔ ∃ x ∈ rs, x.kind.toNat = 1 := by
  have hall := clampProgram_copies h
  generalize (clampProgram table rs).1 = cs at hall
  induction hall with
  | nil => simp
  | @cons r c rest cs hrc _ ih =>
    obtain ⟨k, p, hk, -, rfl⟩ := hrc
    have hrest := ih fun y hy => h y (by simp [hy])
    have hfirst : decide ((clampStep k p r).kind = .steam) = true ↔ r.kind.toNat = 1 := by
      rw [clampStep_kind, decide_eq_true_eq, hk]
      cases k <;> decide
    simp only [List.any_cons, Bool.or_eq_true, hrest, hfirst, List.mem_cons, exists_eq_or_imp]

end Sys2Proof.Machine
end

section
/-! A program accepted: its entry, the boiler's start, and what follows for its hold reasons (R35, R43, R45, R49, R97). -/

namespace Sys2Proof.Machine

/-! ### The entry of a step, case by case (R43, R45) -/

section
variable {b : Bay} {s : State} {x : Context} {c : StepCopy} {index : Nat}

theorem stepEntered_blc : (stepEntered b index x s).blc = s.blc := by simp [stepEntered, setContext]
theorem stepEntered_snu : (stepEntered b index x s).snu = s.snu := by simp [stepEntered, setContext]
theorem stepEntered_moc : (stepEntered b index x s).moc = s.moc := by simp [stepEntered, setContext]

theorem formHolds_congr {t : State} (hblc : t.blc = s.blc) (hpae : t.pae = s.pae) (hsnu : t.snu = s.snu)
    (hmoc : t.moc = s.moc) : formHolds b x c t = formHolds b x c s := by
  simp only [formHolds, frontHolds, steamHolds, powerHolds, tankHolds, standbyHolds, hblc, hpae, hsnu, hmoc]

theorem headNotify_congr {t : State} (hsrs : t.srs = s.srs) : headNotify b t = headNotify b s := by
  simp only [headNotify, headRecord, hsrs]

theorem mustWait_congr {t : State} (hsrs : t.srs = s.srs) (hoau : t.oau = s.oau) : mustWait b x t = mustWait b x s := by
  simp only [mustWait, headNotify_congr hsrs, hoau]

/-- A step that starts: its hold set is formed, and it runs or is held by it (R45). -/
theorem startStep_bsq (hx : (s.bsq.get b).context = some x) (hc : contextCopy x = some c) :
    (startStep b s).bsq = s.bsq.set b { s.bsq.get b with
      state := if formHolds b x c s = HoldSet.empty then .running else .held
      holds := formHolds b x c s, context := some (zeroStep x) } := by
  have hform := startStep_form b s
  generalize startStep b s = t at hform ⊢
  cases hform with
  | none hnone =>
    rw [currentCopy, hx, Option.bind_some, hc] at hnone
    cases hnone
  | @starts y d hy hd =>
    obtain rfl : x = y := Option.some.inj (hx.symm.trans hy)
    obtain rfl : c = d := Option.some.inj (hc.symm.trans hd)
    rw [driveBay_bsq, stepSettled_bsq, promiseStep_bsq]
    simp only [holdsEmpty, decide_eq_true_eq]

theorem startStep_oau (hx : (s.bsq.get b).context = some x) (hc : contextCopy x = some c) :
    (startStep b s).oau = (promiseStep b x s).oau := by
  have hform := startStep_form b s
  generalize startStep b s = t at hform ⊢
  cases hform with
  | none hnone =>
    rw [currentCopy, hx, Option.bind_some, hc] at hnone
    cases hnone
  | @starts y d hy hd =>
    obtain rfl : x = y := Option.some.inj (hx.symm.trans hy)
    rw [driveBay_oau, stepSettled_oau]

theorem enterStep_waiting (hx : (s.bsq.get b).context = some x) (hw : mustWait b (enteredContext index x) s = true) :
    (enterStep b index s).bsq = s.bsq.set b { s.bsq.get b with
      state := .waiting, holds := HoldSet.empty, context := some (enteredContext index x) } ∧
    (enterStep b index s).oau = s.oau := by
  have hform := enterStep_form b index s
  generalize enterStep b index s = t at hform ⊢
  cases hform with
  | none hnone => rw [hx] at hnone; cases hnone
  | waits hy =>
    obtain rfl : x = _ := Option.some.inj (hx.symm.trans hy)
    simp
  | starts hy hno =>
    obtain rfl : x = _ := Option.some.inj (hx.symm.trans hy)
    rw [mustWait_congr (stepEntered_srs b s index x) (stepEntered_oau b s index x), hw] at hno
    cases hno

theorem enterStep_started (hx : (s.bsq.get b).context = some x) (hc : contextCopy (enteredContext index x) = some c)
    (hw : mustWait b (enteredContext index x) s = false) :
    (enterStep b index s).bsq = s.bsq.set b { s.bsq.get b with
      state := if formHolds b (enteredContext index x) c s = HoldSet.empty then .running else .held
      holds := formHolds b (enteredContext index x) c s, context := some (enteredContext index x) } ∧
    (enterStep b index s).oau.get b = { s.oau.get b with
      promise := if headNotify b s && !isFinalStep (enteredContext index x) then true else (s.oau.get b).promise } := by
  have hform := enterStep_form b index s
  generalize enterStep b index s = t at hform ⊢
  cases hform with
  | none hnone => rw [hx] at hnone; cases hnone
  | waits hy hyes =>
    obtain rfl : x = _ := Option.some.inj (hx.symm.trans hy)
    rw [mustWait_congr (stepEntered_srs b s index x) (stepEntered_oau b s index x), hw] at hyes
    cases hyes
  | starts hy hno =>
    obtain rfl : x = _ := Option.some.inj (hx.symm.trans hy)
    have hentered : ((stepEntered b index x s).bsq.get b).context = some (enteredContext index x) := by simp
    have hholds : formHolds b (enteredContext index x) c (stepEntered b index x s) = formHolds b (enteredContext index x) c s :=
      formHolds_congr stepEntered_blc (stepEntered_pae b s index x) stepEntered_snu stepEntered_moc
    refine ⟨?_, ?_⟩
    · rw [startStep_bsq hentered hc, hholds, stepEntered_bsq, PerBay.get_set_same, PerBay.set_set]
      rfl
    · rw [startStep_oau hentered hc, promiseStep_oau, stepEntered_oau, headNotify_congr (stepEntered_srs b s index x)]

end

/-! ### Moves of the boiler and the hold reasons of a started step (R49) -/

section
variable {b : Bay} {s : State} {c : StepCopy} {next : BoilerState}

/-- After a move of the boiler a started step is held under NO_STEAM as the new state has it. -/
theorem toBoiler_holds (next : BoilerState) (hs : Started c (s.bsq.get b)) (hn : s.blc.state ≠ next) :
    ((toBoiler next s).bsq.get b).holds = { (s.bsq.get b).holds with noSteam := steamHolds c (toBoiler next s) } ∧
      Started c ((toBoiler next s).bsq.get b) := by
  have hvalves (t : State) : (forBays driveValve t).bsq = t.bsq := forBays_keeps State.bsq (fun _ _ => rfl) t
  have hstate : steamHolds c (toBoiler next s) = steamHolds c (boilerMoved next s) := by
    have hmoved : (boilerMoved next s).blc.state = next := by
      unfold boilerMoved
      dsimp only
      split <;> rfl
    simp only [steamHolds, toBoiler_state, hmoved]
  rw [hstate, toBoiler_of_ne hn, hvalves]
  obtain ⟨u, before, after⟩ := forBays_aside (fun b s => reholdSteam_frame b s) (boilerMoved next s) b
  have hub : u.bsq.get b = s.bsq.get b := by rw [before.bsq, boilerMoved_bsq]
  have hholds : steamHolds c u = steamHolds c (boilerMoved next s) := by simp only [steamHolds, before.boiler]
  rw [after.bsq, reholdSteam_eq, ← hholds]
  have hmade := rehold_of_started (change := fun _ h c s => { h with noSteam := steamHolds c s }) (s := u) (b := b) (by rw [hub]; exact hs)
  rw [hub] at hmade
  exact hmade

/-- A started step's set is this one, with NO_STEAM as the boiler stands. -/
def HeldAsBoiler (b : Bay) (c : StepCopy) (holds : HoldSet) (s : State) : Prop :=
  Started c (s.bsq.get b) ∧ (s.bsq.get b).holds = { holds with noSteam := steamHolds c s }

theorem HeldAsBoiler.toBoiler {holds : HoldSet} (next : BoilerState) (h : HeldAsBoiler b c holds s) :
    HeldAsBoiler b c holds (toBoiler next s) := by
  by_cases hn : s.blc.state = next
  · rw [Sys2Proof.Machine.toBoiler, if_pos hn]
    exact h
  · obtain ⟨hholds, hstarted⟩ := toBoiler_holds next h.1 hn
    exact ⟨hstarted, by rw [hholds, h.2]⟩

theorem HeldAsBoiler.examineSteam {holds : HoldSet} (h : HeldAsBoiler b c holds s) :
    HeldAsBoiler b c holds (examineSteam s) :=
  examineSteam_keeps (p := HeldAsBoiler b c holds) (fun _ h => h) (fun next _ h => h.toBoiler next) h

/-- A context with no stalled time and no satisfied samples is not touched by a re-evaluation. -/
theorem changeHolds_context {x : Context} (hx : x.stallTimer = 0 ∧ x.satisfied = 0) (d : Bay) (h : HoldSet)
    (hs : (s.bsq.get b).context = some x) : ((changeHolds d h s).bsq.get b).context = some x := by
  by_cases hd : b = d
  · subst hd
    have hform := changeHolds_form b h s
    generalize changeHolds b h s = t at hform ⊢
    cases hform with
    | same => exact hs
    | kept => simpa using hs
    | @held y hy =>
      obtain rfl : x = y := Option.some.inj (hs.symm.trans hy)
      simp [← hx.2]
    | @released y hy =>
      obtain rfl : x = y := Option.some.inj (hs.symm.trans hy)
      simp [← hx.1]
  · rw [(changeHolds_frame d h s).bsq b hd]
    exact hs

theorem examineSteam_context {x : Context} (hx : x.stallTimer = 0 ∧ x.satisfied = 0)
    (hs : (s.bsq.get b).context = some x) : ((examineSteam s).bsq.get b).context = some x :=
  examineSteam_bay (P := fun q => q.context = some x)
    (fun d _ ht => (rehold_keeps (p := fun t => (t.bsq.get b).context = some x)
      (fun d h _ ht => changeHolds_context hx d h ht) d ht).2.1) hs

/-- A bay without a started step is passed over. -/
theorem examineSteam_unstarted (hs : startedCopy (s.bsq.get b) = none) :
    (examineSteam s).bsq.get b = s.bsq.get b :=
  examineSteam_bay (P := fun q => q = s.bsq.get b)
    (fun d t ht => by rw [reholdSteam_eq, rehold_unstarted (by rw [ht]; exact hs), ht]) rfl

end

/-! ### The boiler's start (R97, R98) -/

theorem steamWanted_iff (s : State) :
    steamWanted s = true ↔ s.moc.phase = .run ∧ ∃ b, bayWantsSteam (s.bsq.get b) = true := by
  rw [steamWanted, Bool.and_eq_true, decide_eq_true_eq, PerBay.any_toList_iff]

/-- Where an examination of the start takes the boiler once steam may be wanted. -/
theorem examineSteam_state (s : State) : (examineSteam s).blc.state =
    if s.blc.state = .cold ∧ steamWanted s = true ∧ s.snu.boilerCutout.filtered = false ∧
        s.snu.boilerTemp.state = .valid ∧ s.moc.pumpMode = .auto then
      if s.snu.boilerWaterOk.filtered then
        if boilerTempIs (fun v => decide (102 ≤ v)) s then .ready else .heat
      else if s.snu.freshEmpty.filtered then .starved else .fill
    else s.blc.state := by
  unfold examineSteam
  split
  · rw [examineStart_state]
    rfl
  next hw => rw [if_neg fun h => hw h.2.1]

/-- A program that a waiting or started bay has entered wants steam exactly if it has a STEAM step. -/
theorem bayWantsSteam_of_inProgress {q : Bsq} {x : Context} (hq : inProgress q = true) (hx : q.context = some x) :
    bayWantsSteam q = contextWantsSteam x := by
  cases hs : q.state <;> simp [inProgress, hs] at hq <;> simp [bayWantsSteam, hs, hx]

/-! ### The program admitted (R35) -/

/-- The context a program is admitted with. -/
def admittedContext (table : ProfileTable) (program : List StepRecord) : Context :=
  { stepCount := program.length, copies := (clampProgram table program).1, clamped := (clampProgram table program).2
    index := 0, paused := false, stepTimer := 0, heldTime := 0, stallTimer := 0, satisfied := 0, delivered := 0
    pendingResult := none }

section
variable {b : Bay} {s : State} {program : List StepRecord} {c : StepCopy}

theorem programAdmitted_bsq : (programAdmitted b program s).bsq = s.bsq.set b { s.bsq.get b with
    admission := (s.bsq.get b).admission + 1, context := some (admittedContext s.pts.table program) } := by
  simp [programAdmitted, admittedContext]

theorem programAdmitted_current : ((programAdmitted b program s).bsq.get b).context =
    some (admittedContext s.pts.table program) := by rw [programAdmitted_bsq, PerBay.get_set_same]

theorem programAdmitted_rings :
    (programAdmitted b program s).srs = s.srs.set b { s.srs.get b with admitted := program.length } ∧
    (programAdmitted b program s).oau = s.oau.set b { s.oau.get b with reservation := true } := by
  simp [programAdmitted]

theorem acceptProgram_plantFrame : PlantFrame (enterStep b 0 (programAdmitted b program s)) (acceptProgram b program s) :=
  examineSteam_plantFrame _

theorem acceptProgram_frame : BayFrame b s (enterStep b 0 (programAdmitted b program s)) :=
  (programAdmitted_frame b program s).trans (enterStep_frame b 0 _)

theorem acceptProgram_srs :
    (acceptProgram b program s).srs = s.srs.set b { s.srs.get b with admitted := program.length } := by
  rw [acceptProgram_plantFrame.srs, enterStep_srs, programAdmitted_rings.1]

theorem acceptProgram_oau {o : OutcomeRing} (ho : (enterStep b 0 (programAdmitted b program s)).oau.get b = o) :
    (acceptProgram b program s).oau = s.oau.set b o := by
  rw [acceptProgram_plantFrame.oau]
  refine PerBay.ext_get fun d => ?_
  by_cases hd : d = b
  · subst hd
    rw [PerBay.get_set_same, ho]
  · rw [PerBay.get_set_other _ _ hd, acceptProgram_frame.oau d hd]

theorem acceptProgram_context :
    ((acceptProgram b program s).bsq.get b).context = some (admittedContext s.pts.table program) :=
  examineSteam_context ⟨rfl, rfl⟩ (enterStep_context 0 programAdmitted_current)

/-- The first step must wait: the bay waits with no hold reasons (R43). -/
theorem acceptProgram_waits (hw : mustWait b (admittedContext s.pts.table program) (programAdmitted b program s) = true) :
    ((acceptProgram b program s).bsq.get b).state = .waiting ∧
    ((acceptProgram b program s).bsq.get b).holds = HoldSet.empty ∧
    (acceptProgram b program s).oau = s.oau.set b { s.oau.get b with reservation := true } := by
  obtain ⟨hbsq, hoau⟩ := enterStep_waiting (index := 0) programAdmitted_current hw
  have hq := examineSteam_unstarted (b := b) (s := enterStep b 0 (programAdmitted b program s))
    (by rw [hbsq, PerBay.get_set_same]; rfl)
  rw [acceptProgram_eq, hq, hbsq, PerBay.get_set_same]
  refine ⟨rfl, rfl, acceptProgram_oau ?_⟩
  rw [hoau, programAdmitted_rings.2, PerBay.get_set_same]

/-- The first step starts: it is held as the plant stands once the boiler's start has been examined (R45, R49). -/
theorem acceptProgram_starts (hc : contextCopy (admittedContext s.pts.table program) = some c)
    (hw : mustWait b (admittedContext s.pts.table program) (programAdmitted b program s) = false) :
    HeldAsBoiler b c (formHolds b (admittedContext s.pts.table program) c s) (acceptProgram b program s) ∧
    (acceptProgram b program s).oau = s.oau.set b { s.oau.get b with
      reservation := true
      promise := if headNotify b (programAdmitted b program s) && !isFinalStep (admittedContext s.pts.table program)
        then true else (s.oau.get b).promise } := by
  obtain ⟨hbsq, hoau⟩ := enterStep_started (index := 0) programAdmitted_current hc hw
  have hholds : formHolds b (enteredContext 0 (admittedContext s.pts.table program)) c (programAdmitted b program s) =
      formHolds b (admittedContext s.pts.table program) c s := formHolds_congr rfl rfl rfl rfl
  rw [hholds] at hbsq
  have hentered : HeldAsBoiler b c (formHolds b (admittedContext s.pts.table program) c s)
      (enterStep b 0 (programAdmitted b program s)) := by
    have hboiler : steamHolds c (enterStep b 0 (programAdmitted b program s)) = steamHolds c s := by
      rw [steamHolds, acceptProgram_frame.blc]
      rfl
    rw [HeldAsBoiler, hboiler, hbsq, PerBay.get_set_same]
    refine ⟨⟨?_, ?_⟩, rfl⟩
    · rw [startedCopy_of_state (ite_eq_or_eq _ _ _)]
      exact hc
    · by_cases he : formHolds b (admittedContext s.pts.table program) c s = HoldSet.empty <;> simp [he]
  refine ⟨by rw [acceptProgram_eq]; exact hentered.examineSteam, acceptProgram_oau ?_⟩
  · rw [hoau, programAdmitted_rings.2, PerBay.get_set_same]
    rfl

/-- The boiler's state once the program has been accepted (R97, R98). -/
theorem acceptProgram_boiler (h : Acceptable b program s) (hp : ∀ x ∈ program, stepFailure s.pts.table x = none) :
    (acceptProgram b program s).blc.state =
      if s.blc.state = .cold ∧ ((∃ x ∈ program, x.kind.toNat = 1) ∨ steamWanted s = true) ∧
          s.snu.boilerCutout.filtered = false ∧ s.snu.boilerTemp.state = .valid ∧ s.moc.pumpMode = .auto then
        if s.snu.boilerWaterOk.filtered then if boilerTempIs (fun v => decide (102 ≤ v)) s then .ready else .heat
        else if s.snu.freshEmpty.filtered then .starved else .fill
      else s.blc.state := by
  obtain ⟨hidle, -, hrun, -⟩ := (admissible_iff b s).mp h.may
  have hframe := acceptProgram_frame (b := b) (program := program) (s := s)
  have hwanted : steamWanted (enterStep b 0 (programAdmitted b program s)) = true ↔
      (∃ x ∈ program, x.kind.toNat = 1) ∨ steamWanted s = true := by
    obtain ⟨x, hx, -, -, hcopy⟩ := h.copy
    have hbay : bayWantsSteam ((enterStep b 0 (programAdmitted b program s)).bsq.get b) = true ↔
        ∃ x ∈ program, x.kind.toNat = 1 := by
      rw [bayWantsSteam_of_inProgress (enterStep_inProgress hx hcopy) (enterStep_context 0 programAdmitted_current),
        ← clampProgram_any_steam hp]
      rfl
    have hnot : bayWantsSteam (s.bsq.get b) = false := by simp [bayWantsSteam, hidle]
    rw [steamWanted_iff, steamWanted_iff, hframe.moc]
    refine ⟨fun ⟨_, d, hd⟩ => ?_, fun h => ⟨hrun, ?_⟩⟩
    · by_cases hdb : d = b
      · subst hdb
        exact .inl (hbay.mp hd)
      · rw [hframe.bsq d hdb] at hd
        exact .inr ⟨hrun, d, hd⟩
    · rcases h with hsteam | ⟨-, d, hd⟩
      · exact ⟨b, hbay.mpr hsteam⟩
      · have hdb : d ≠ b := fun he => by rw [he, hnot] at hd; cases hd
        exact ⟨d, by rw [hframe.bsq d hdb]; exact hd⟩
  have hstate : (enterStep b 0 (programAdmitted b program s)).blc.state = s.blc.state := by rw [hframe.blc]
  rw [acceptProgram_eq, examineSteam_state, hstate, hframe.snu, hframe.moc,
    boilerTempIs_congr (s := s) (by rw [hframe.snu])]
  exact if_congr (and_congr_right fun _ => and_congr_left fun _ => hwanted) rfl rfl

end

end Sys2Proof.Machine
end

section
/-! OUTCOME_FREE, and the examination of admission said in the manual's words (R15 to R20, R33 to R36, R147). -/

namespace Sys2Proof.Machine

/-! ### Freeing (R147) -/

section
variable {b : Bay} {s : State} {freed : Byte}

theorem exec_outcomeFree_panel (noise : Bool) (hA : Awake s) (hf : s.fitted.get b = true) :
    exec (.outcomeFree (.panel b) noise (bayByte b) freed) s =
      .next (respond (.panel b) 0x0A#8 noise (ownerOutcomeFree b freed (heard (.panel b) s)).2
        (ownerOutcomeFree b freed (heard (.panel b) s)).1) := by
  refine (congrArg Host.Outcome.next (takeRequest_of_bay (m := .panel b) (r := .outcomeFree (bayByte b) freed) noise hA hf hf
    (by simp [ownBay]) rfl rfl (by simp [indexOk]) (bayOf_bayByte b))).trans ?_
  simp only [perform, forBay_bayByte]
  rfl

/-- The ring with its k oldest records gone, and OUTCOME_READY dropped with the last of them. -/
def freedTo (b : Bay) (freed : Byte) (s : State) : State :=
  let o := s.oau.get b
  let left := setOutcomes b { o with records := o.records.drop (freed - o.f).toNat, f := freed } s
  if o.records.drop (freed - o.f).toNat = [] then dropOutcomeReady b left else left

theorem ownerOutcomeFree_nothing (hk : (freed - (s.oau.get b).f).toNat = 0) :
    ownerOutcomeFree b freed s = (s, ackWith [(s.oau.get b).q, (s.oau.get b).f]) := if_pos hk

theorem ownerOutcomeFree_tooMany (hk : (s.oau.get b).records.length < (freed - (s.oau.get b).f).toNat) :
    ownerOutcomeFree b freed s = (s, nakWith .valueBad [(s.oau.get b).q, (s.oau.get b).f]) :=
  (if_neg (by omega)).trans (if_pos hk)

theorem ownerOutcomeFree_frees (h1 : 1 ≤ (freed - (s.oau.get b).f).toNat)
    (hk : (freed - (s.oau.get b).f).toNat ≤ (s.oau.get b).records.length) :
    ownerOutcomeFree b freed s = (afterFree b (freedTo b freed s),
      ackWith [((afterFree b (freedTo b freed s)).oau.get b).q, ((afterFree b (freedTo b freed s)).oau.get b).f]) := by
  have hempty (l : List Outcome) : (l.isEmpty = true) = (l = []) := by simp
  unfold ownerOutcomeFree freedTo
  dsimp only
  rw [if_neg (by omega), if_neg (by omega)]
  simp only [hempty]

theorem freedTo_view (b : Bay) (freed : Byte) (s : State) :
    (freedTo b freed s).bsq = s.bsq ∧ (freedTo b freed s).srs = s.srs ∧ (freedTo b freed s).fitted = s.fitted ∧
    (freedTo b freed s).blc = s.blc ∧ (freedTo b freed s).pae = s.pae ∧ (freedTo b freed s).snu = s.snu ∧
    (freedTo b freed s).pts = s.pts ∧ (freedTo b freed s).moc = s.moc ∧
    (freedTo b freed s).supervisor = s.supervisor ∧ (freedTo b freed s).oau.get b = { s.oau.get b with
      records := (s.oau.get b).records.drop (freed - (s.oau.get b).f).toNat, f := freed } := by
  unfold freedTo
  dsimp only
  split <;> simp

theorem freedTo_dropped (h : (s.oau.get b).records.drop (freed - (s.oau.get b).f).toNat = []) :
    ((freedTo b freed s).panels.get b).pending &&& 0x0001#16 = 0#16 := by
  have hbits (p : Half) : p &&& ~~~0x0001#16 &&& 0x0001#16 = 0#16 := by
    rw [BitVec.and_assoc, show (~~~0x0001#16 &&& 0x0001#16 : Half) = 0#16 from rfl, BitVec.and_zero]
  unfold freedTo
  dsimp only
  rw [if_pos h]
  simp only [dropOutcomeReady, PerBay.get_set_same]
  exact hbits _

/-! ### What waits goes on -/

theorem startStep_f : ((startStep b s).oau.get b).f = (s.oau.get b).f := by
  have hform := startStep_form b s
  generalize startStep b s = t at hform ⊢
  cases hform with
  | none => rfl
  | starts => rw [driveBay_oau, stepSettled_oau, promiseStep_oau]

theorem enterStep_f (index : Nat) : ((enterStep b index s).oau.get b).f = (s.oau.get b).f := by
  have hform := enterStep_form b index s
  generalize enterStep b index s = t at hform ⊢
  cases hform with
  | none => rfl
  | waits => simp
  | starts => rw [startStep_f, stepEntered_oau]

theorem Rejections.f {t : State} (h : Rejections b s t) : (t.oau.get b).f = (s.oau.get b).f := by
  induction h with
  | none s => rfl
  | more index reason tag ha hp h ih =>
    rw [ih]
    simp [rejectProgram, postOutcome_ring]

theorem examineAdmission_f : ((examineAdmission b s).oau.get b).f = (s.oau.get b).f := by
  obtain ⟨u, hu, hend⟩ := examineAdmission_form b s
  rcases hend with hend | ⟨program, -, hend⟩
  · rw [hend, hu.f]
  · rw [hend, acceptProgram_plantFrame.oau, enterStep_f, programAdmitted_rings.2, PerBay.get_set_same, hu.f]

theorem afterFree_idle (h : (s.bsq.get b).state = .idle) : afterFree b s = examineAdmission b s := by
  simp only [afterFree, h]

theorem afterFree_starts (h : (s.bsq.get b).state = .waiting) (hf : 1 ≤ freeEntries (s.oau.get b)) :
    afterFree b s = startStep b s := by
  simp only [afterFree, h, hf, if_true]

theorem afterFree_same (h : (s.bsq.get b).state ≠ .idle)
    (hf : (s.bsq.get b).state ≠ .waiting ∨ freeEntries (s.oau.get b) = 0) : afterFree b s = s := by
  unfold afterFree
  split
  next hw => exact if_neg (by rcases hf with hf | hf <;> [exact absurd hw hf; omega])
  next hi => exact absurd hi h
  next => rfl

/-- What follows a freeing keeps F, and the records left stay in front. -/
theorem afterFree_ring (b : Bay) (s : State) : ((afterFree b s).oau.get b).f = (s.oau.get b).f ∧
    (s.oau.get b).records <+: ((afterFree b s).oau.get b).records := by
  unfold afterFree
  split
  · split
    · exact ⟨startStep_f, by rw [startStep_records]⟩
    · exact ⟨rfl, List.prefix_refl _⟩
  · obtain ⟨posted, hposted⟩ := examineAdmission_posts b s
    exact ⟨examineAdmission_f, posted, hposted.symm⟩
  · exact ⟨rfl, List.prefix_refl _⟩

theorem stepSettled_stateChange {x : Context} {h : HoldSet} (hf : s.fitted.get b = true) :
    ((stepSettled b x h s).panels.get b).pending &&& 0x0002#16 ≠ 0#16 := by
  unfold stepSettled
  dsimp only
  have hput := setBsq_fitted b
    { s.bsq.get b with state := if holdsEmpty h then .running else .held, holds := h, context := some x } s
  generalize setBsq b _ s = u at hput ⊢
  replace hf : u.fitted.get b = true := by rw [hput]; exact hf
  split
  · rw [raisePanel_pendingSet .stateChange hf, show panelBit .stateChange = 0x0002#16 from rfl, or_and_right_self]
    decide
  · rw [raisePanel_pendingSet .holdChange (by rw [raisePanel_fitted]; exact hf), raisePanel_pendingSet .stateChange hf,
      BitVec.or_assoc, BitVec.or_comm (panelBit .stateChange), ← BitVec.or_assoc,
      show panelBit .stateChange = 0x0002#16 from rfl, or_and_right_self]
    decide

theorem startStep_stateChange {x : Context} {c : StepCopy} (hx : (s.bsq.get b).context = some x)
    (hc : contextCopy x = some c) (hf : s.fitted.get b = true) :
    ((startStep b s).panels.get b).pending &&& 0x0002#16 ≠ 0#16 := by
  have hform := startStep_form b s
  generalize startStep b s = t at hform ⊢
  cases hform with
  | none hnone =>
    rw [currentCopy, hx, Option.bind_some, hc] at hnone
    cases hnone
  | starts =>
    rw [driveBay_panels]
    exact stepSettled_stateChange (by rw [(promiseStep_frame b _ s).fitted]; exact hf)

end

/-! ### Rejecting, and the checks in order (R15, R16) -/

theorem raisePanel_of_fitted {b : Bay} {u : State} (e : PanelEvent) (hf : u.fitted.get b = true) :
    raisePanel b e u = { u with panels := u.panels.set b (raiseBits (panelBit e) (u.panels.get b)) } := if_pos hf

theorem raisePanel_of_unfitted {b : Bay} {u : State} (e : PanelEvent) (hf : ¬ u.fitted.get b = true) :
    raisePanel b e u = u := if_neg hf

/-- The outcome ring with a rejection posted. -/
def rejectedRing (b : Bay) (index : Nat) (why : RejectReason) (tag : Byte) (s : State) : OutcomeRing :=
  { s.oau.get b with
    records := (s.oau.get b).records ++ [⟨(s.oau.get b).q, .rejected, true, tag, false, some index, none, none,
      endValues b s, some (index, why), none⟩]
    q := (s.oau.get b).q + 1 }

/-- A rejection written out: the record behind the others, the program gone, OUTCOME_READY with a first record. -/
theorem rejectProgram_eq (b : Bay) (steps index : Nat) (why : RejectReason) (tag : Byte) (s : State) :
    rejectProgram b steps index why tag s = { s with
      oau := s.oau.set b (rejectedRing b index why tag s)
      srs := s.srs.set b { s.srs.get b with
        records := (s.srs.get b).records.drop steps, c := (s.srs.get b).c + BitVec.ofNat 8 steps }
      panels := if (s.oau.get b).records = [] ∧ s.fitted.get b = true then
        s.panels.set b { s.panels.get b with
          pending := (s.panels.get b).pending ||| 0x0001#16
          line := ((s.panels.get b).pending ||| 0x0001#16) &&& (s.panels.get b).mask != 0#16 }
        else s.panels } := by
  unfold rejectProgram
  have hring (rec : Outcome) (hrec : { rec with sequence := (s.oau.get b).q } = (⟨(s.oau.get b).q, .rejected, true, tag,
      false, some index, none, none, endValues b s, some (index, why), none⟩ : Outcome)) :
      (postOutcome b .other rec s).oau.get b = rejectedRing b index why tag s := by
    rw [postOutcome_ring, hrec]
    rfl
  by_cases he : (s.oau.get b).records = []
  · rw [postOutcome_of_empty _ _ he, hring _ rfl]
    by_cases hf : s.fitted.get b = true
    · rw [raisePanel_of_fitted (u := setOutcomes b (rejectedRing b index why tag s) s) .outcomeReady hf, if_pos ⟨he, hf⟩]
      rfl
    · rw [raisePanel_of_unfitted (u := setOutcomes b (rejectedRing b index why tag s) s) .outcomeReady hf,
        if_neg fun h => hf h.2]
      rfl
  · rw [postOutcome_of_nonempty _ _ he, hring _ rfl, if_neg fun h => he h.1]
    rfl

/-- The checks of R15 in their order, with kinds by number. -/
theorem stepFailure_eq (table : ProfileTable) (x : StepRecord) : stepFailure table x =
    if x.kind.toNat = 0 ∨ 5 < x.kind.toNat then some .badKind
    else if x.duration = 0#16 then some .badDuration
    else match (table[x.profile.toNat]?).join with
      | none => some .badProfile
      | some p =>
        if x.kind.toNat = 1 ∧ p.maxDose = 0 then some .profileForbidsSteam
        else if x.kind.toNat = 5 ∧ (x.goal != 0xFFFF#16) = true then some .goalNotAllowed
        else none := by
  unfold stepFailure
  cases hk : kindOfCode x.kind with
  | none => rw [if_pos (kindOfCode_eq_none.mp hk)]
  | some k =>
    have hkind : ¬ (x.kind.toNat = 0 ∨ 5 < x.kind.toNat) := fun h => by
      rw [kindOfCode_eq_none.mpr h] at hk
      cases hk
    have hcode := kindOfCode_eq_some.mp hk
    have hsteam : k = .steam ↔ x.kind.toNat = 1 := by
      rw [hcode]
      cases k <;> decide
    have hsoak : k = .soak ↔ x.kind.toNat = 5 := by
      rw [hcode]
      cases k <;> decide
    rw [if_neg hkind]
    simp only [hsteam, hsoak, profileOf]
    rfl

/-! ### A clamped copy with its kind by number (R18, R19) -/

section
variable {x : StepRecord} {k : StepKind}

theorem kindNumber (hk : x.kind = kindCode k) : x.kind.toNat = (kindCode k).toNat := by rw [hk]

/-- The clamped goal, kind by kind (R18). -/
def goalByNumber (x : StepRecord) (p : Profile) : Nat :=
  if x.kind.toNat = 1 then min p.maxDose (max 1 x.goal.toNat)
  else if x.kind.toNat = 2 then max p.dryFloor (min 100 x.goal.toNat)
  else if x.kind.toNat = 3 then min p.maxOsc x.goal.toNat
  else if x.kind.toNat = 4 then min 90 x.goal.toNat
  else x.goal.toNat

theorem clampGoal_eq (hk : x.kind = kindCode k) (p : Profile) : clampGoal k p x.goal.toNat = goalByNumber x p := by
  rw [goalByNumber, kindNumber hk]
  cases k <;> rfl

theorem keepsOpenOk_eq (hk : x.kind = kindCode k) :
    keepsOpenOk k = decide (x.kind.toNat = 4 ∨ x.kind.toNat = 5) := by
  rw [kindNumber hk]
  cases k <;> rfl

theorem effectiveTarget_eq (hk : x.kind = kindCode k) (p : Profile) : effectiveTarget k p x =
    if x.kind.toNat = 1 then some (if hasGoal x then goalByNumber x p else p.maxDose)
    else if (x.kind.toNat = 2 ∨ x.kind.toNat = 4) ∧ hasGoal x = true then some (goalByNumber x p) else none := by
  rw [← clampGoal_eq hk, kindNumber hk]
  cases k <;> simp [effectiveTarget, kindCode]

theorem clampStep_tempLimit (hk : x.kind = kindCode k) (p : Profile) : (clampStep k p x).tempLimit =
    if x.kind.toNat = 2 then some p.maxAirTemp else if x.kind.toNat = 3 then some (p.maxAirTemp - 10) else none := by
  rw [kindNumber hk]
  cases k <;> rfl

theorem clampStep_fanCeiling (hk : x.kind = kindCode k) (p : Profile) : (clampStep k p x).fanCeiling =
    if x.kind.toNat = 2 ∨ x.kind.toNat = 3 then min (clampLevel x.level.toNat) p.maxFan
    else if x.kind.toNat = 4 then p.maxFan else if x.kind.toNat = 1 then 2 else 0 := by
  rw [kindNumber hk]
  cases k <;> rfl

theorem clampStep_oscRate (hk : x.kind = kindCode k) (p : Profile) : (clampStep k p x).oscRate =
    if x.kind.toNat = 3 then if hasGoal x then goalByNumber x p else p.maxOsc else 0 := by
  rw [← clampGoal_eq hk, kindNumber hk]
  cases k <;> rfl

/-- Whether a clamp changes a value of the step (R20). -/
theorem stepClamped_iff (hk : x.kind = kindCode k) (p : Profile) : stepClamped k p x = true ↔
    clampLevel x.level.toNat ≠ x.level.toNat ∨ p.maxStep < x.duration.toNat ∨
      (hasGoal x = true ∧ goalByNumber x p ≠ x.goal.toNat) ∨
      (isOpenOk x = true ∧ (isOpenOk x && decide (x.kind.toNat = 4 ∨ x.kind.toNat = 5)) = false) := by
  rw [← clampGoal_eq hk, ← keepsOpenOk_eq hk]
  cases hopen : isOpenOk x <;> simp [stepClamped, hopen, or_assoc]

end

end Sys2Proof.Machine
end

section
/-! OUTCOME_FREE settled: freeing, and the examination of admission (R33 to R36, R147). -/

namespace Sys2Proof.Machine

/-- A step that starts promises an entry for a NOTIFY outcome of its own (R59, R144). -/
theorem promise_eq (x : Context) (a p : Bool) :
    (if a && !isFinalStep x then true else p) = (p || (a && decide (x.index + 1 < x.stepCount))) := by
  have hfinal : isFinalStep x = !decide (x.index + 1 < x.stepCount) := by
    rw [isFinalStep, ← decide_not]
    exact decide_eq_decide.mpr (by omega)
  rw [hfinal]
  cases a <;> cases p <;> simp

section
variable {b : Bay} {s : State} {program : List StepRecord}

theorem acceptProgram_compressorSame : CompressorSame s (acceptProgram b program s) :=
  (CompressorSame.of_bay acceptProgram_frame).trans (examineSteam_compressorSame _)

theorem acceptProgram_pae : (acceptProgram b program s).pae =
    { s.pae with grants := (acceptProgram b program s).pae.grants } := by
  have hsame := acceptProgram_compressorSame (b := b) (s := s) (program := program)
  have hplant := acceptProgram_plantFrame (b := b) (s := s) (program := program)
  have hpae : (enterStep b 0 (programAdmitted b program s)).pae = s.pae := enterStep_pae b _ 0
  have hfields {p q : Pae} (h1 : p.roundTimer = q.roundTimer) (h2 : p.budget = q.budget) (h3 : p.effective = q.effective)
      (h4 : p.compressorOn = q.compressorOn) (h5 : p.minOn = q.minOn) (h6 : p.minOff = q.minOff) (h7 : p.shed = q.shed) :
      p = { q with grants := p.grants } := by
    cases p
    cases q
    simp_all only
  exact hfields (by rw [hplant.roundTimer, hpae]) (by rw [hplant.budget, hpae]) (by rw [hplant.effective, hpae]) hsame.on
    hsame.minOn hsame.minOff hsame.shed

end

/-- Settles O34: the freeing and what goes on after it, then the examination: nothing, a rejection, or an acceptance. -/
theorem outcomeFreeRemovesTheOldest : Obligations.OutcomeFreeRemovesTheOldest := by
  intro b noise freed s startHolds
  refine ⟨fun hA hf => ?free, ?_⟩
  case free =>
    intro h o q k
    have hgot := exec_outcomeFree_panel (freed := freed) noise hA hf
    have hfit : h.fitted.get b = true := by rw [show h.fitted = s.fitted from heard_fitted _ s]; exact hf
    refine ⟨fun hk => hgot.trans ?_, fun hk => hgot.trans ?_, fun h1 hk => ?_⟩
    · rw [ownerOutcomeFree_nothing hk]
      rfl
    · rw [ownerOutcomeFree_tooMany hk]
      rfl
    · rw [ownerOutcomeFree_frees h1 hk] at hgot
      obtain ⟨hbsq, hsrs, hfitted, hblc, hpae, hsnu, hpts, hmoc, hsup, hring⟩ := freedTo_view b freed h
      obtain ⟨hkeep, hprefix⟩ := afterFree_ring b (freedTo b freed h)
      intro left u t
      have hu : freedTo b freed h = u := rfl
      rw [hu] at hgot hbsq hsrs hfitted hblc hpae hsnu hpts hmoc hsup hring hkeep hprefix
      have ht : afterFree b u = t := rfl
      have hku : (u.oau.get b).f = freed := by rw [hring]
      rw [ht] at hgot hkeep hprefix
      have hq : u.bsq.get b = q := by rw [hbsq]
      refine ⟨hgot.trans ?_, by rw [hring] at hprefix; exact hprefix, fun hd => ?_, fun hs => ?_, fun hs hno => ?_,
        fun hs hfree x c hx hc => ?_⟩
      · rw [hkeep, hku]
        rfl
      · exact freedTo_dropped hd
      · exact afterFree_idle (by rw [hq]; exact hs)
      · exact afterFree_same (by rw [hq]; exact hs) (by rw [hq]; exact hno)
      · intro holds
        have hstart : t = startStep b u := afterFree_starts (by rw [hq]; exact hs) hfree
        have hux : (u.bsq.get b).context = some x := by rw [hq]; exact hx
        have hholds : formHolds b x c u = holds := formHolds_congr (s := h) hblc hpae hsnu hmoc
        have hframe := startStep_frame b u
        rw [hstart]
        refine ⟨?_, ?_, startStep_stateChange hux hc (by rw [hfitted]; exact hfit), ?_, ?_, ?_, ?_, ?_, ?_, ?_⟩
        · rw [startStep_bsq hux hc, PerBay.get_set_same, hholds, hq]
          rfl
        · rw [startStep_oau hux hc, promiseStep_oau, headNotify_congr hsrs, hring, promise_eq]
        · rw [startStep_srs, hsrs]
        · rw [startStep_pae, hpae]
        · rw [hframe.snu, hsnu]
        · rw [hframe.pts, hpts]
        · rw [hframe.moc, hmoc]
        · rw [hframe.supervisor, hsup]
        · rw [hframe.blc, ← hblc]
  intro r o a ready profile kind given openOk finding level goal isCopy changes
  have hfinding (x : StepRecord) : finding x = stepFailure s.pts.table x := (stepFailure_eq s.pts.table x).symm
  have hready : ready ↔ admissible b s = true := (admissible_iff b s).symm
  refine ⟨fun hno => ?_, fun front last rest hr hfront hlast hok => ?_⟩
  · rcases hno with hno | hno
    · exact examineAdmission_none b s (Bool.eq_false_iff.mpr fun h => hno (hready.mpr h))
    · exact examineAdmission_no_program (headProgram_none hno)
  intro program
  have hrecords : (s.srs.get b).records = program ++ rest := by
    rw [show (s.srs.get b).records = _ from hr]
    simp [program]
  have hhead : headProgram (s.srs.get b).records = some program := by
    rw [show (s.srs.get b).records = _ from hr]
    exact headProgram_append hfront hlast
  refine ⟨fun i x why hx hw hb => ?_, fun hpass first hfirst => ?_⟩
  · intro p
    have hfail := firstFailure_some 0 hx ((hfinding x).symm.trans hw)
      fun j y hj hy => (hfinding y).symm.trans (hb j y hj hy)
    rw [examineAdmission_rejects (hready.mp hok) hhead hfail, rejectProgram_eq, hrecords, List.drop_left, Nat.zero_add]
    rfl
  have hp : ∀ x ∈ program, stepFailure s.pts.table x = none := fun x hx => (hfinding x).symm.trans (hpass x hx)
  have hacc : Acceptable b program s := ⟨hready.mp hok, hhead, firstFailure_none 0 hp⟩
  have ht := examineAdmission_accepts hacc.may hacc.oldest hacc.passes
  have hbefore : program[0]? = some first := by rw [← List.head?_eq_getElem?, hfirst]
  obtain ⟨c, hc, k, p, hkind, hprofile, hclamp⟩ := clampProgram_copy hp hbefore
  have hcopy : contextCopy (admittedContext s.pts.table program) = some c := hc
  have hnotify : headNotify b (programAdmitted b program s) = first.flags.getLsbD 1 := by
    have hrecord : headRecord b (programAdmitted b program s) = some first := by
      rw [headRecord, programAdmitted_rings.1, PerBay.get_set_same]
      change (s.srs.get b).records.head? = _
      rw [hrecords, List.head?_append, hfirst]
      rfl
    rw [headNotify, hrecord]
    rfl
  intro t q promises waits
  have hfinal : isFinalStep (admittedContext s.pts.table program) = !decide (1 < program.length) := by
    rw [isFinalStep, ← decide_not]
    exact decide_eq_decide.mpr (by simp [admittedContext])
  have hmust : mustWait b (admittedContext s.pts.table program) (programAdmitted b program s) = true ↔ waits := by
    rw [mustWait, hnotify, hfinal, programAdmitted_rings.2, PerBay.get_set_same, Bool.not_not]
    simp only [Bool.and_eq_true, decide_eq_true_eq]
    exact Iff.rfl
  have hisCopy {x : StepRecord} {p : Profile} {c : StepCopy} (hx : profile x = some p) (hc : ClampedTo s.pts.table x c) :
      isCopy x p c := by
    obtain ⟨k, u, hk, hu, rfl⟩ := hc
    obtain rfl : p = u := Option.some.inj (hx.symm.trans hu)
    exact ⟨hk.symm, rfl, rfl, rfl, effectiveTarget_eq hk p, clampStep_tempLimit hk p, clampStep_fanCeiling hk p,
      clampStep_oscRate hk p, congrArg (isOpenOk x && ·) (keepsOpenOk_eq hk)⟩
  have hkept := acceptProgram_plantFrame (b := b) (s := s) (program := program)
  have hframe := acceptProgram_frame (b := b) (s := s) (program := program)
  have htq : q = (acceptProgram b program s).bsq.get b := by rw [← ht]
  have hcontext : q.context = some (admittedContext s.pts.table program) := by rw [htq, acceptProgram_context]
  have hstartHolds (hstarted : HeldAsBoiler b c (formHolds b (admittedContext s.pts.table program) c s)
      (acceptProgram b program s)) : q.holds = startHolds ((s.snu.fronts.get b).filtered && !openOk first) false
        (decide (kind first = 1)) (decide (kind first = 2)) t := by
    have hsteam : decide (c.kind = .steam) = decide (kind first = 1) := by
      rw [hclamp, show kind first = _ from kindNumber hkind]
      cases k <;> rfl
    have hdry : decide (c.kind = .dry) = decide (kind first = 2) := by
      rw [hclamp, show kind first = _ from kindNumber hkind]
      cases k <;> rfl
    have hopen : c.openOk = openOk first := by
      rw [hclamp]
      exact congrArg (isOpenOk first && ·) (keepsOpenOk_eq hkind)
    have hpower : (acceptProgram b program s).pae.grants.compressor = s.pae.grants.compressor :=
      acceptProgram_compressorSame.grant
    have hsnu : (acceptProgram b program s).snu = s.snu := hkept.snu.trans hframe.snu
    have hmoc : (acceptProgram b program s).moc = s.moc := hkept.moc.trans hframe.moc
    rw [htq, hstarted.2, show t = _ from ht]
    simp only [startHolds, formHolds, frontHolds, steamHolds, powerHolds, tankHolds, standbyHolds, hsteam, hdry, hopen, hpower,
      hsnu, hmoc]
    rfl
  refine ⟨by rw [show t.srs = _ from congrArg State.srs ht, acceptProgram_srs], ?_, ?_, ⟨_, hcontext, rfl, rfl, rfl, rfl, rfl,
    rfl, rfl, rfl, rfl, clampProgram_length hacc.passes, fun i x p hx hprofile => ?_, ?_⟩, fun hw => ?_, fun hw => ?_, ?_, ?_,
    ?_, ?_, ?_, ?_, ?_, ?_, ?_, fun d hd => ?_⟩
  · rw [show t.oau = _ from congrArg State.oau ht]
    by_cases hw : waits
    · obtain ⟨-, -, hoau⟩ := acceptProgram_waits (hmust.mpr hw)
      have hpromise : decide (promises ∧ ¬ waits) = false := decide_eq_false fun h => h.2 hw
      rw [hoau, hpromise, Bool.or_false]
    · obtain ⟨-, hoau⟩ := acceptProgram_starts hcopy (Bool.eq_false_iff.mpr fun h => hw (hmust.mp h))
      have hpromise : (first.flags.getLsbD 1 && decide ((admittedContext s.pts.table program).index + 1 <
          (admittedContext s.pts.table program).stepCount)) = decide (promises ∧ ¬ waits) := by
        rw [Bool.eq_iff_iff, Bool.and_eq_true, decide_eq_true_eq, decide_eq_true_eq]
        exact ⟨fun h => ⟨h, hw⟩, fun h => h.1⟩
      rw [hoau, promise_eq, hnotify, hpromise]
  · rw [htq, acceptProgram_admission]
  · obtain ⟨d, hd, hmade⟩ := clampProgram_copy hp hx
    exact ⟨d, hd, hisCopy hprofile hmade⟩
  · refine (clampProgram_clamped hp).trans ⟨fun ⟨x, hx, k, p, hk, hu, hc⟩ => ⟨x, hx, p, hu, (stepClamped_iff hk p).mp hc⟩,
      fun ⟨x, hx, p, hu, hc⟩ => ?_⟩
    obtain ⟨k, -, hk, -⟩ := stepFailure_none (hp x hx)
    exact ⟨x, hx, k, p, kindOfCode_eq_some.mp hk, hu, (stepClamped_iff (kindOfCode_eq_some.mp hk) p).mpr hc⟩
  · obtain ⟨hstate, hholds, -⟩ := acceptProgram_waits (hmust.mpr hw)
    rw [htq]
    exact ⟨hstate, hholds⟩
  · obtain ⟨hstarted, -⟩ := acceptProgram_starts hcopy (Bool.eq_false_iff.mpr fun h => hw (hmust.mp h))
    exact ⟨hstartHolds hstarted, by rw [htq]; exact hstarted.1.state⟩
  · rw [show t.blc = _ from congrArg State.blc ht]
    exact acceptProgram_boiler hacc hp
  · rw [show t.pae = _ from congrArg State.pae ht]
    exact acceptProgram_pae
  · rw [show t.pae = _ from congrArg State.pae ht]
    exact acceptProgram_compressorSame.grant
  · rw [show t.snu = _ from congrArg State.snu ht, hkept.snu, hframe.snu]
  · rw [show t.pts = _ from congrArg State.pts ht, hkept.pts, hframe.pts]
  · rw [show t.moc = _ from congrArg State.moc ht, hkept.moc, hframe.moc]
  · rw [show t.pli = _ from congrArg State.pli ht, hkept.pli, hframe.pli]
  · rw [show t.fitted = _ from congrArg State.fitted ht, hkept.fitted, hframe.fitted]
  · rw [show t.pending = _ from congrArg State.pending ht, hkept.pending, hframe.pending]
  · rw [show t.bsq = _ from congrArg State.bsq ht, acceptProgram_eq, examineSteam_admission, hframe.bsq d hd]

end Sys2Proof.Machine
end

section
/-! A switch's sample, up to its consumers, and the readers of a publication other than the boiler (R50, R123, R129, R131 to
R133). -/

namespace Sys2Proof.Machine

section
variable (s : State) (sw : Switch) (level : Bool)

theorem consumeEdge_plantFrame (e : Edge) : PlantFrame s (consumeEdge sw e s) := by
  cases sw with
  | front b => exact (reholdFront_plantFrame b s).trans (driveValve_plantFrame b _)
  | boilerWaterOk =>
    cases e with
    | rising =>
      change PlantFrame s (waterOk s)
      unfold waterOk
      split
      · exact enterHeat_plantFrame s
      · exact examineStart_plantFrame s
      · exact .refl s
    | falling => exact PlantFrame.ite (fun _ => towardsFill_plantFrame s) fun _ => .refl s
  | boilerCutout =>
    cases e with
    | rising => exact lockBoiler_plantFrame .cutout s
    | falling => exact examineStart_plantFrame s
  | freshLow =>
    cases e with
    | rising => exact raiseSup_plantFrame .freshLow s
    | falling => exact .refl s
  | freshEmpty =>
    cases e with
    | rising =>
      have h := raiseSup_plantFrame .freshEmpty s
      exact PlantFrame.ite (fun _ => h.trans (toBoiler_plantFrame .starved _)) fun _ => h
    | falling => exact refill_plantFrame s
  | condFull =>
    cases e with
    | rising =>
      exact ((raiseSup_plantFrame .condFull s).trans (forceCompressorOff_plantFrame _)).trans
        (forBays_plantFrame _ reholdTank_plantFrame _)
    | falling => exact forBays_plantFrame _ reholdTank_plantFrame s

theorem takeSwitch_plantFrame : PlantFrame (withSwitch sw level s) (takeSwitch sw level s) := by
  rw [takeSwitch_eq]
  split
  next e _ => exact consumeEdge_plantFrame _ sw e
  next => exact .refl _

theorem withSwitch_same : switchOf (withSwitch sw level s).snu sw = filterSample (switchOf s.snu sw) level := by
  cases sw with
  | front b => exact PerBay.get_set_same _ b _
  | _ => rfl

theorem withSwitch_other {other : Switch} (h : other ≠ sw) :
    switchOf (withSwitch sw level s).snu other = switchOf s.snu other := by
  cases sw with
  | front b =>
    cases other with
    | front c => exact PerBay.get_set_other _ _ fun hc => h (congrArg _ hc)
    | _ => rfl
  | boilerWaterOk =>
    cases other with
    | boilerWaterOk => exact absurd rfl h
    | _ => rfl
  | boilerCutout =>
    cases other with
    | boilerCutout => exact absurd rfl h
    | _ => rfl
  | freshLow =>
    cases other with
    | freshLow => exact absurd rfl h
    | _ => rfl
  | freshEmpty =>
    cases other with
    | freshEmpty => exact absurd rfl h
    | _ => rfl
  | condFull =>
    cases other with
    | condFull => exact absurd rfl h
    | _ => rfl

theorem withSwitch_inputs : (withSwitch sw level s).snu.temps = s.snu.temps ∧ (withSwitch sw level s).snu.hums = s.snu.hums ∧
    (withSwitch sw level s).snu.boilerTemp = s.snu.boilerTemp ∧
    (withSwitch sw level s).snu.switchTimer = s.snu.switchTimer ∧
    (withSwitch sw level s).snu.analogTimer = s.snu.analogTimer := by
  cases sw <;> exact ⟨rfl, rfl, rfl, rfl, rfl⟩

variable {s sw}

theorem exec_switchSample_sampled (hphase : s.moc.phase ≠ .sleep) (hfit : switchFitted s sw = true) :
    exec (.switchSample sw level) s = .next (takeSwitch sw level s) :=
  congrArg Host.Outcome.next (if_pos (by simp [samplesRun, hphase, hfit]))

theorem exec_switchSample_unsampled (h : s.moc.phase = .sleep ∨ switchFitted s sw = false) :
    exec (.switchSample sw level) s = .next s := by
  refine congrArg Host.Outcome.next (if_neg ?_)
  rcases h with h | h <;> simp [samplesRun, h]

/-- A sample that makes no filtered transition reaches no consumer. -/
theorem takeSwitch_quiet (h : nextRun (switchOf s.snu sw) level ≠ 3 ∨ (switchOf s.snu sw).filtered = level) :
    takeSwitch sw level s = withSwitch sw level s := by
  have hedge : filterEdge (switchOf s.snu sw) (filterSample (switchOf s.snu sw) level) = none := by
    refine if_pos ?_
    rw [filterSample]
    rcases h with h | h
    · exact (if_neg h).symm
    · dsimp only
      rw [h, ite_self]
  rw [takeSwitch_eq, hedge]

end

/-- Settles O51: the filter moves, and the consumers keep every input. -/
theorem switchSampleFiltersByThreeAgreeing : Obligations.SwitchSampleFiltersByThreeAgreeing := by
  intro sw level s f n
  refine ⟨fun h => exec_switchSample_unsampled level h, fun hphase hfit => ?_⟩
  have hkept := takeSwitch_plantFrame s sw level
  obtain ⟨htemps, hhums, hboiler, hswitch, hanalog⟩ := withSwitch_inputs s sw level
  refine ⟨_, exec_switchSample_sampled level hphase hfit, ?_, fun other hother => ?_, ?_, ?_, ?_, ?_, ?_, fun hquiet => ?_,
    hkept.moc, hkept.pli, hkept.pts, hkept.srs, hkept.oau, hkept.fitted, hkept.pending⟩
  · rw [hkept.snu, withSwitch_same]
    rfl
  · rw [hkept.snu, withSwitch_other s sw level hother]
  · rw [hkept.snu, htemps]
  · rw [hkept.snu, hhums]
  · rw [hkept.snu, hboiler]
  · rw [hkept.snu, hswitch]
  · rw [hkept.snu, hanalog]
  · rw [takeSwitch_quiet level hquiet]
    rfl

/-! ### The readers of a publication (R50, R123, R129) -/

section
variable {b : Bay} {s : State} {c : StepCopy}

theorem takeHeater_frame (b : Bay) (s : State) : BayFrame b s (takeHeater b s) := setOutputs_frame b _ s

/-- A bay's outputs once it has taken a publication. -/
theorem takeHeater_outputs (b : Bay) (s : State) : (takeHeater b s).alc.bays.get b = { s.alc.bays.get b with
    fan := endAwait (autoFan (s.bsq.get b)) (s.alc.bays.get b).fan
    damper := endAwait (autoDamper (s.bsq.get b)) (s.alc.bays.get b).damper
    osc := endAwait (autoOsc (s.bsq.get b)) (s.alc.bays.get b).osc
    drive := if s.fitted.get b then s.pae.grants.aux.get b else (s.alc.bays.get b).drive } := by
  simp [takeHeater]

theorem takeHeaters_outputs (s : State) (b : Bay) : (takeHeaters s).alc.bays.get b = { s.alc.bays.get b with
    fan := endAwait (autoFan (s.bsq.get b)) (s.alc.bays.get b).fan
    damper := endAwait (autoDamper (s.bsq.get b)) (s.alc.bays.get b).damper
    osc := endAwait (autoOsc (s.bsq.get b)) (s.alc.bays.get b).osc
    drive := if s.fitted.get b then s.pae.grants.aux.get b else (s.alc.bays.get b).drive } := by
  obtain ⟨u, before, after⟩ := forBays_aside takeHeater_frame { s with untaken := { s.untaken with alc := false } } b
  rw [takeHeaters, after.outputs, takeHeater_outputs, before.outputs, before.bsq, before.fitted, before.aux]

theorem endAwait_of_not {α : Type} (auto : α) {o : Serviced α} (h : o.awaiting = false) : endAwait auto o = o :=
  if_neg (by simp [h])

theorem endAwait_auto {α : Type} (auto : α) {o : Serviced α} (h : o.awaiting = true) (hm : o.mode = .auto) :
    endAwait auto o = ⟨auto, .auto, o.service, false⟩ :=
  (if_pos h).trans (driveServiced_auto auto hm)

/-- A step that stops running has its heater entry withdrawn (R54, R94). -/
theorem changeHolds_heatOff {h : HoldSet} (hs : Started c (s.bsq.get b)) (hrun : (s.bsq.get b).state = .running)
    (hh : h ≠ HoldSet.empty) : HeatOff b (changeHolds b h s) := by
  have hnew := (changeHolds_of_started h hs).1
  have hempty : (s.bsq.get b).holds = HoldSet.empty := by
    by_contra hne
    rw [hs.law.mpr hne] at hrun
    cases hrun
  have hform := changeHolds_form b h s
  generalize changeHolds b h s = t at hform hnew ⊢
  cases hform with
  | same => exact absurd (hnew.symm.trans hempty) hh
  | kept hk =>
    rcases hk with ⟨-, he⟩ | ⟨hheld, -⟩
    · exact absurd he hh
    · rw [hrun] at hheld
      cases hheld
  | held => exact driveBay_heatOff (withdrawAux_heatOff b _)
  | released _ hheld =>
    rw [hrun] at hheld
    cases hheld

end

/-- Settles O50: the heaters bay by bay, and NO_POWER of the one bay. -/
theorem readersTakeThePublication : Obligations.ReadersTakeThePublication := by
  intro s hlaw
  refine ⟨⟨takeHeaters s, rfl, rfl, ?_, fun b => ?_⟩, fun b => ?_⟩
  · exact forBays_keeps (fun t => t.alc.compressorDrive) (fun b s => (takeHeater_frame b s).compressorDrive) _
  · intro o o' q
    have ho : o' = _ := takeHeaters_outputs s b
    rw [ho]
    exact ⟨fun hf => if_pos hf, fun hf => if_neg (by simp [hf]), rfl, fun ha => endAwait_of_not _ ha,
      fun ha hm => endAwait_auto _ ha hm, fun ha => endAwait_of_not _ ha, fun ha hm => endAwait_auto _ ha hm,
      fun ha => endAwait_of_not _ ha, fun ha hm => endAwait_auto _ ha hm⟩
  · intro q
    obtain ⟨v, hv⟩ : ∃ v, v = { s with untaken := { s.untaken with bsq := s.untaken.bsq.set b false } } := ⟨_, rfl⟩
    have hexec : exec (.noPowerReevaluation b) s = .next (reholdPower b v) := by
      rw [hv]
      rfl
    have hvq : v.bsq.get b = q := by rw [hv]
    rw [reholdPower_eq] at hexec
    refine ⟨fun hnone => ?_, fun c hc => ?_⟩
    · rw [hexec, rehold_of_none (by rw [hvq]; exact hnone), hv]
    · intro holds
      have hstarted : Started c (v.bsq.get b) := by
        rw [hvq]
        exact (hlaw b).started hc
      have hmade := rehold_of_started (change := fun _ h c s => { h with noPower := powerHolds c s }) hstarted
      have hset : { (v.bsq.get b).holds with noPower := powerHolds c v } = holds := by
        rw [hvq, powerHolds, ← Bool.decide_and, hv]
      have heq : rehold (fun _ h c s => { h with noPower := powerHolds c s }) b v = changeHolds b holds v := by
        simp only [rehold, hstarted.copy]
        rw [hset]
      rw [heq] at hexec hmade
      have hframe := changeHolds_frame b holds v
      have hplant := changeHolds_plantFrame b holds v
      refine ⟨_, hexec, hmade.1.trans hset, ?_, fun hne hrun => changeHolds_heatOff hstarted (by rw [hvq]; exact hrun) hne,
        ?_, ?_, ?_, ?_, ?_, ?_, ?_, fun d hd => ⟨?_, ?_, ?_⟩⟩
      · rw [hmade.2.state, hmade.1, hset]
      · rw [hplant.srs, hv]
      · rw [hplant.oau, hv]
      · rw [hplant.snu, hv]
      · rw [hplant.pts, hv]
      · rw [hplant.moc, hv]
      · rw [hplant.pli, hv]
      · rw [hframe.supervisor, hv]
      · rw [hframe.bsq d hd, hv]
      · rw [hframe.panels d hd, hv]
      · rw [hframe.outputs d hd, hv]

end Sys2Proof.Machine
end

section
/-! What the consumers of a switch do in the event of its filtered transition (R47, R51, R99 to R106, R115, R127, R133,
R135). -/

namespace Sys2Proof.Machine

/-! ### The transition -/

section
variable {sw : Switch} {level : Bool} {s : State}

/-- The third agreeing sample of the other level makes the transition. -/
theorem takeSwitch_edge (hne : (switchOf s.snu sw).filtered ≠ level) (hraw : (switchOf s.snu sw).raw = level)
    (hrun : 2 ≤ (switchOf s.snu sw).run) :
    (switchOf (withSwitch sw level s).snu sw).filtered = level ∧
    takeSwitch sw level s = consumeEdge sw (if level then .rising else .falling) (withSwitch sw level s) := by
  have hthree : nextRun (switchOf s.snu sw) level = 3 := by
    rw [nextRun, if_pos hraw.symm]
    omega
  have hnew : (filterSample (switchOf s.snu sw) level).filtered = level := if_pos hthree
  have hedge : filterEdge (switchOf s.snu sw) (filterSample (switchOf s.snu sw) level) =
      some (if level then .rising else .falling) := by
    rw [filterEdge, hnew, if_neg hne]
    cases level <;> rfl
  refine ⟨by rw [withSwitch_same, hnew], ?_⟩
  rw [takeSwitch_eq, hedge]

end

/-! ### Re-evaluations of every bay -/

section
variable {b : Bay} {s : State} {c : StepCopy} {change : Bay → HoldSet → StepCopy → State → HoldSet}

theorem forBays_rehold_started (hs : Started c (s.bsq.get b))
    (hcongr : ∀ u, Aside b s u → change b (s.bsq.get b).holds c u = change b (s.bsq.get b).holds c s) :
    ((forBays (rehold change) s).bsq.get b).holds = change b (s.bsq.get b).holds c s ∧
      Started c ((forBays (rehold change) s).bsq.get b) := by
  obtain ⟨u, before, after⟩ := forBays_aside (f := rehold change) rehold_frame s b
  rw [after.bsq, ← hcongr u before, ← before.bsq]
  exact rehold_of_started (by rw [before.bsq]; exact hs)

theorem forBays_rehold_unstarted (hs : startedCopy (s.bsq.get b) = none) :
    (forBays (rehold change) s).bsq.get b = s.bsq.get b := by
  obtain ⟨u, before, after⟩ := forBays_aside (f := rehold change) rehold_frame s b
  rw [after.bsq, rehold_of_none (by rw [before.bsq]; exact hs), before.bsq]

end

/-! ### A bay front (R47, R115) -/

section
variable {b : Bay} {s : State} {c : StepCopy}

theorem valveOpen_iff (b : Bay) (s : State) : valveOpen b s = true ↔
    s.fitted.get b = true ∧ s.blc.state = .ready ∧ (s.snu.fronts.get b).filtered = false ∧
      ∃ c, runningCopy (s.bsq.get b) = some c ∧ c.kind = .steam := by
  have hsteam : copyIs .steam (runningCopy (s.bsq.get b)) = true ↔ ∃ c, runningCopy (s.bsq.get b) = some c ∧ c.kind = .steam := by
    cases runningCopy (s.bsq.get b) <;> simp [copyIs]
  simp only [valveOpen, Bool.and_eq_true, decide_eq_true_eq, Bool.not_eq_true', hsteam, and_assoc]

theorem changeHolds_self {holds : HoldSet} (h : (s.bsq.get b).holds = holds) : changeHolds b holds s = s := by
  simp [changeHolds, h]

/-- A front's transition puts FRONT_OPEN to the bay's started step or lifts it. -/
theorem reholdFront_started (hs : Started c (s.bsq.get b)) :
    let t := reholdFront b s
    (t.bsq.get b).holds = { (s.bsq.get b).holds with frontOpen := frontHolds b c s } ∧ Started c (t.bsq.get b) ∧
      ((t.bsq.get b).holds = (s.bsq.get b).holds → t = s) := by
  have hmade := rehold_of_started (b := b) (change := fun b h c s => { h with frontOpen := frontHolds b c s }) hs
  rw [← reholdFront_eq] at hmade
  refine ⟨hmade.1, hmade.2, fun hsame => ?_⟩
  rw [reholdFront_eq, rehold]
  simp only [hs.copy]
  exact changeHolds_self (hsame.symm.trans hmade.1)

end

/-! ### The condensate tank (R51, R127) -/

section
variable {b : Bay} {s : State} {c : StepCopy}

theorem forceCompressorOff_holds (hs : Started c (s.bsq.get b)) :
    ((forceCompressorOff s).bsq.get b).holds = { (s.bsq.get b).holds with
      noPower := if s.pae.compressorOn = true then decide (c.kind = .dry) else (s.bsq.get b).holds.noPower } ∧
      Started c ((forceCompressorOff s).bsq.get b) := by
  by_cases hon : s.pae.compressorOn = true
  · have hmade := forBays_rehold_started (change := fun _ h c s => { h with noPower := powerHolds c s })
      (s := withdrawCompressor (compressorOff s)) (b := b) (c := c) hs fun u hu => by
        simp only [powerHolds, hu.compressor]
    rw [forceCompressorOff, if_pos hon, if_pos hon, reholdPower_eq]
    have hdry : powerHolds c (withdrawCompressor (compressorOff s)) = decide (c.kind = .dry) := by
      rw [powerHolds]
      exact Bool.and_true _
    rw [hdry] at hmade
    exact hmade
  · rw [forceCompressorOff, if_neg hon, if_neg hon]
    exact ⟨rfl, hs⟩

theorem forceCompressorOff_unstarted (hs : startedCopy (s.bsq.get b) = none) :
    (forceCompressorOff s).bsq.get b = s.bsq.get b := by
  unfold forceCompressorOff
  split
  · rw [reholdPower_eq, forBays_rehold_unstarted]
    · rfl
    · exact hs
  · rfl

theorem forceCompressorOff_supervisor (s : State) : (forceCompressorOff s).supervisor = s.supervisor := by
  unfold forceCompressorOff
  split
  · exact forBays_keeps State.supervisor (fun b s => (reholdPower_frame b s).supervisor) _
  · rfl

theorem tankHolds_congr {t : State} (h : t.snu = s.snu) : tankHolds c t = tankHolds c s := by simp only [tankHolds, h]

end

/-! ### The cells of the table of R133 -/

section
variable {level : Bool}

/-- The front of bay b. -/
theorem front_transition {b : Bay} {s u : State} (hlaw : BayLaw (s.bsq.get b)) (hu : u = { s with snu := u.snu })
    (hfit : s.fitted.get b = true) (hfront : (u.snu.fronts.get b).filtered = level) :
    let t := driveValve b (reholdFront b u)
    (t.blc.valves.get b = true ↔ level = false ∧ s.blc.state = .ready ∧
      ∃ c, runningCopy (t.bsq.get b) = some c ∧ c.kind = .steam) ∧
    (∀ c, startedCopy (s.bsq.get b) = some c →
      (t.bsq.get b).holds = { (s.bsq.get b).holds with frontOpen := level && !c.openOk } ∧
      (t.bsq.get b).state = (if (t.bsq.get b).holds = HoldSet.empty then .running else .held) ∧
      (level = true → c.openOk = false → (t.bsq.get b).state = .held) ∧
      ((t.bsq.get b).holds = (s.bsq.get b).holds →
        t.bsq = s.bsq ∧ t.alc = s.alc ∧ t.pae = s.pae ∧ t.panels = s.panels)) ∧
    (startedCopy (s.bsq.get b) = none → t.bsq = s.bsq) ∧ t.blc = { s.blc with valves := t.blc.valves } ∧
    t.pae.compressorOn = s.pae.compressorOn ∧ t.supervisor = s.supervisor ∧
    ∀ d, d ≠ b → t.bsq.get d = s.bsq.get d ∧ t.panels.get d = s.panels.get d ∧
      t.blc.valves.get d = s.blc.valves.get d := by
  have hub : u.bsq.get b = s.bsq.get b := by rw [hu]
  have hframe := (reholdFront_frame b u).trans (driveValve_frame b _)
  refine ⟨?_, fun c hc => ?_, fun hnone => ?_, ?_, ?_, ?_, fun d hd => ⟨?_, ?_, ?_⟩⟩
  · have hvalve : (driveValve b (reholdFront b u)).blc.valves.get b = valveOpen b (reholdFront b u) := by simp [driveValve]
    have hplant := reholdFront_plantFrame b u
    rw [hvalve, valveOpen_iff, hplant.fitted, hplant.snu, (reholdFront_frame b u).blc, hfront]
    have hufit : u.fitted.get b = true := by rw [hu]; exact hfit
    have hustate : u.blc.state = s.blc.state := by rw [hu]
    rw [hufit, hustate, driveValve_bsq]
    tauto
  · have hstarted : Started c (u.bsq.get b) := by
      rw [hub]
      exact hlaw.started hc
    obtain ⟨hholds, hstill, hsame⟩ := reholdFront_started hstarted
    have hopen : frontHolds b c u = (level && !c.openOk) := by rw [frontHolds, hfront]
    rw [hopen, hub] at hholds
    rw [hub] at hsame
    rw [driveValve_bsq]
    refine ⟨hholds, hstill.state, fun hl ho => hstill.law.mpr fun he => ?_, fun h => ?_⟩
    · rw [hholds, hl, ho] at he
      cases he
    · rw [driveValve_alc, driveValve_pae, driveValve_panels, hsame h, hu]
      exact ⟨rfl, rfl, rfl, rfl⟩
  · rw [driveValve_bsq, reholdFront_eq, rehold_of_none (by rw [hub]; exact hnone), hu]
  · rw [hframe.blc]
    rw [hu]
  · rw [hframe.pae, hu]
  · rw [hframe.supervisor, hu]
  · rw [hframe.bsq d hd, hu]
  · rw [hframe.panels d hd, hu]
  · rw [hframe.valves d hd, hu]

/-- COND_FULL: the compressor first, then TANK_FULL of each bay. -/
theorem condFull_rising {s u : State} (hu : u = { s with snu := u.snu }) (hfull : u.snu.condFull.filtered = true) :
    let t := condensateFull u
    t.supervisor.pending = s.supervisor.pending ||| 0x0040#16 ∧ t.pae.compressorOn = false ∧
    (s.pae.compressorOn = true →
      t.pae.minOff = 0 ∧ t.pae.grants.compressor = 0 ∧ t.alc.compressorDrive = false) ∧
    (s.pae.compressorOn = false → t.pae.minOff = s.pae.minOff ∧
      t.pae.grants.compressor = s.pae.grants.compressor ∧ t.alc.compressorDrive = s.alc.compressorDrive) ∧
    t.blc.state = s.blc.state ∧
    ∀ b, (startedCopy (s.bsq.get b) = none → t.bsq.get b = s.bsq.get b) ∧
      ∀ c, Started c (s.bsq.get b) →
        (t.bsq.get b).holds = { (s.bsq.get b).holds with
          tankFull := decide (c.kind = .steam ∨ c.kind = .dry)
          noPower := if s.pae.compressorOn = true then decide (c.kind = .dry) else (s.bsq.get b).holds.noPower } ∧
        Started c (t.bsq.get b) := by
  obtain ⟨v, hv⟩ : ∃ v, v = raiseSup .condFull u := ⟨_, rfl⟩
  have hvs : v = { s with snu := u.snu, supervisor := v.supervisor } := by
    rw [hv, hu]
    rfl
  have hvpending : v.supervisor.pending = s.supervisor.pending ||| 0x0040#16 := by
    rw [hv, hu]
    rfl
  have ht : condensateFull u = forBays reholdTank (forceCompressorOff v) := by rw [hv, condensateFull]
  have hsame := CompressorSame.forBays (fun b s => .of_bay (reholdTank_frame b s)) (forceCompressorOff v)
  have hsup := forBays_keeps State.supervisor (fun b s => (reholdTank_frame b s).supervisor) (forceCompressorOff v)
  have hboiler := forBays_keeps (fun t => t.blc.state) (fun b s => by rw [(reholdTank_frame b s).blc]) (forceCompressorOff v)
  have hsnu := (forceCompressorOff_plantFrame v).snu
  have hon : v.pae.compressorOn = s.pae.compressorOn := by rw [hvs]
  have hvb (b : Bay) : v.bsq.get b = s.bsq.get b := by rw [hvs]
  intro t
  rw [show t = _ from ht]
  refine ⟨?_, ?_, fun h => ?_, fun h => ?_, ?_, fun b => ⟨fun hnone => ?_, fun c hc => ?_⟩⟩
  · rw [hsup, forceCompressorOff_supervisor, hvpending]
  · rw [hsame.on]
    cases hc : s.pae.compressorOn with
    | true => exact (forceCompressorOff_on (hon.trans hc)).1.on
    | false => rw [forceCompressorOff_off (hon.trans hc), hon, hc]
  · obtain ⟨hstopped, hminOff, -⟩ := forceCompressorOff_on (hon.trans h)
    exact ⟨hsame.minOff.trans hminOff, hsame.grant.trans hstopped.grant, hsame.drive.trans hstopped.drive⟩
  · rw [hsame.minOff, hsame.grant, hsame.drive, forceCompressorOff_off (hon.trans h), hvs]
    exact ⟨rfl, rfl, rfl⟩
  · rw [hboiler, (forceCompressorOff_boilerSame v).state, hvs]
  · have hvnone : startedCopy (v.bsq.get b) = none := by rw [hvb]; exact hnone
    have hstill := forceCompressorOff_unstarted hvnone
    rw [reholdTank_eq, forBays_rehold_unstarted (by rw [hstill]; exact hvnone), hstill, hvb]
  · obtain ⟨hholds, hstill⟩ := forceCompressorOff_holds (s := v) (b := b) (c := c) (by rw [hvb]; exact hc)
    have hmade := forBays_rehold_started (change := fun _ h c s => { h with tankFull := tankHolds c s }) hstill fun u hu => by
      simp only [tankHolds_congr hu.snu]
    have htank : tankHolds c (forceCompressorOff v) = decide (c.kind = .steam ∨ c.kind = .dry) := by
      rw [tankHolds_congr hsnu, tankHolds, hvs, hfull, Bool.and_true, ← Bool.decide_or]
    rw [reholdTank_eq]
    rw [hholds, htank, hvb, hon] at hmade
    exact hmade

/-- COND_FULL false again: TANK_FULL of each bay alone. -/
theorem condFull_falling {s u : State} (hu : u = { s with snu := u.snu }) (hfull : u.snu.condFull.filtered = false) :
    let t := forBays reholdTank u
    t.supervisor = s.supervisor ∧ t.pae.compressorOn = s.pae.compressorOn ∧ t.pae.minOff = s.pae.minOff ∧
    t.pae.grants.compressor = s.pae.grants.compressor ∧ t.blc.state = s.blc.state ∧
    ∀ b, (startedCopy (s.bsq.get b) = none → t.bsq.get b = s.bsq.get b) ∧
      ∀ c, Started c (s.bsq.get b) →
        (t.bsq.get b).holds = { (s.bsq.get b).holds with tankFull := false } ∧ Started c (t.bsq.get b) := by
  have hsame := CompressorSame.forBays (fun b s => .of_bay (reholdTank_frame b s)) u
  have hsup := forBays_keeps State.supervisor (fun b s => (reholdTank_frame b s).supervisor) u
  have hboiler := forBays_keeps (fun t => t.blc.state) (fun b s => by rw [(reholdTank_frame b s).blc]) u
  have hub (b : Bay) : u.bsq.get b = s.bsq.get b := by rw [hu]
  refine ⟨?_, ?_, ?_, ?_, ?_, fun b => ⟨fun hnone => ?_, fun c hc => ?_⟩⟩
  · rw [hsup, hu]
  · rw [hsame.on, hu]
  · rw [hsame.minOff, hu]
  · rw [hsame.grant, hu]
  · rw [hboiler, hu]
  · rw [reholdTank_eq, forBays_rehold_unstarted (by rw [hub]; exact hnone), hub]
  · have hmade := forBays_rehold_started (b := b) (s := u) (c := c)
      (change := fun _ h c s => { h with tankFull := tankHolds c s }) (by rw [hub]; exact hc) fun v hv => by
        simp only [tankHolds_congr hv.snu]
    have htank : tankHolds c u = false := by rw [tankHolds, hfull, Bool.and_false]
    rw [reholdTank_eq]
    rw [htank, hub] at hmade
    exact hmade

end

/-! ### The boiler's switches -/

section
variable {s : State}

theorem waterOk_fill (h : s.blc.state = .fill) : waterOk s = enterHeat s := by simp only [waterOk, h]

theorem waterOk_cold (h : s.blc.state = .cold) : waterOk s = examineStart s := by simp only [waterOk, h]

theorem waterOk_else (hfill : s.blc.state ≠ .fill) (hcold : s.blc.state ≠ .cold) : waterOk s = s := by
  unfold waterOk
  split
  next h => exact absurd h hfill
  next h => exact absurd h hcold
  next => rfl

/-- Water lost takes a hot boiler towards FILL, its grant withdrawn (R94, R103, R104). -/
theorem waterLost_hot (h : s.blc.state = .heat ∨ s.blc.state = .ready) :
    (waterLost s).blc.state = (if s.snu.freshEmpty.filtered then .starved else .fill) ∧
      (waterLost s).pae.grants.boiler = 0 := by
  have hhot : isHot s.blc.state = true := (isHot_iff _).mpr h
  have ht : waterLost s = towardsFill s := if_pos hhot
  rw [ht, towardsFill_state]
  refine ⟨rfl, ?_⟩
  unfold towardsFill
  split
  · exact toBoiler_grant_of_leaves_hot hhot rfl
  · exact toBoiler_grant_of_leaves_hot hhot rfl

theorem waterLost_else (hheat : s.blc.state ≠ .heat) (hready : s.blc.state ≠ .ready) : waterLost s = s :=
  if_neg fun h => ((isHot_iff _).mp h).elim hheat hready

theorem lockBoiler_state (cause : LockCause) (s : State) : (lockBoiler cause s).blc.state = .locked ∧
    (lockBoiler cause s).blc.cause = if s.blc.state = .locked then s.blc.cause else cause := by
  unfold lockBoiler
  split
  next h => exact ⟨h, rfl⟩
  next => exact ⟨toBoiler_state _ _, toBoiler_cause _ _⟩

theorem examineStart_cause (s : State) : (examineStart s).blc.cause = s.blc.cause :=
  examineStart_keeps (p := fun t => t.blc.cause = s.blc.cause) (fun next t h => (toBoiler_cause next t).trans h) rfl

theorem freshEmptied_state (s : State) :
    (freshEmptied s).blc.state = if s.blc.state = .fill then .starved else s.blc.state := by
  unfold freshEmptied
  dsimp only
  rw [show (raiseSup .freshEmpty s).blc = s.blc from rfl]
  split
  · exact toBoiler_state _ _
  · rfl

theorem or_and_still {p e bit : Half} (h : p &&& bit ≠ 0#16) : (p ||| e) &&& bit ≠ 0#16 := by
  intro hz
  refine h (BitVec.eq_of_getLsbD_eq fun i hi => ?_)
  have hbit := congrArg (fun x : Half => x.getLsbD i) hz
  simp only [BitVec.getLsbD_and, BitVec.getLsbD_or] at hbit ⊢
  cases hp : p.getLsbD i <;> simp_all

theorem freshEmptied_pending (s : State) : (freshEmptied s).supervisor.pending &&& 0x0020#16 ≠ 0#16 := by
  have hraised : (raiseSup .freshEmpty s).supervisor.pending &&& 0x0020#16 ≠ 0#16 := by
    change (s.supervisor.pending ||| 0x0020#16) &&& 0x0020#16 ≠ 0#16
    rw [or_and_right_self]
    decide
  unfold freshEmptied
  dsimp only
  split
  next hfill =>
    rw [toBoiler_pendingSet (by rw [hfill]; decide)]
    exact or_and_still hraised
  next => exact hraised

theorem refill_goes (h : s.blc.state = .starved) (ha : s.moc.pumpMode = .auto) (he : s.snu.freshEmpty.filtered = false) :
    (refill s).blc.state = .fill := by
  rw [refill, if_pos ⟨h, ha, he⟩, towardsFill_state, he]
  rfl

end

/-- Settles O52: the transition is made, and each switch's consumers do their part of it. -/
theorem switchTransitionsReachTheirConsumers : Obligations.SwitchTransitionsReachTheirConsumers := by
  intro sw level s hlaw hphase hfit hne hraw hrun towards heating mayStart
  obtain ⟨hnew, htake⟩ := takeSwitch_edge hne hraw hrun
  have hgot := exec_switchSample_sampled level hphase hfit
  have hkept := takeSwitch_plantFrame s sw level
  obtain ⟨u, hu⟩ : ∃ u, u = withSwitch sw level s := ⟨_, rfl⟩
  have hus : u = { s with snu := u.snu } := by rw [hu]; rfl
  have htemp (test : Nat → Bool) : boilerTempIs test u = boilerTempIs test s := by
    rw [hu]
    exact boilerTempIs_congr (withSwitch_inputs s sw level).2.2.1
  have hwanted : steamWanted u = steamWanted s := by rw [hu]; rfl
  have hustate : u.blc.state = s.blc.state := by rw [hus]
  have humoc : u.moc = s.moc := by rw [hus]
  have huboiler : u.snu.boilerTemp = s.snu.boilerTemp := by rw [hu, (withSwitch_inputs s sw level).2.2.1]
  have hother {x : Switch} (hx : x ≠ sw) : switchOf u.snu x = switchOf s.snu x := by rw [hu, withSwitch_other s sw level hx]
  rw [← hu] at hnew htake hkept
  rw [htake] at hgot hkept
  refine ⟨_, hgot, by rw [hkept.snu]; exact hnew, fun b hsw => ?front, fun hsw => ?water, fun hsw => ?cutout, fun hsw => ?low,
    fun hsw => ?empty, fun hsw => ?cond⟩
  all_goals subst hsw
  case front =>
    have ht : consumeEdge (.front b) (if level then .rising else .falling) u = driveValve b (reholdFront b u) := by
      cases level <;> rfl
    rw [ht]
    exact front_transition (hlaw b) hus hfit hnew
  case water =>
    have hcut : u.snu.boilerCutout = s.snu.boilerCutout := hother (x := .boilerCutout) (by decide)
    have hempty : u.snu.freshEmpty = s.snu.freshEmpty := hother (x := .freshEmpty) (by decide)
    have hok : u.snu.boilerWaterOk.filtered = level := hnew
    refine ⟨fun hl => ?_, fun hl => ?_⟩ <;> subst hl
    · change (_ → (waterOk u).blc.state = _) ∧ (_ → (waterOk u).blc.state = _) ∧
        (_ → _ → waterOk u = { s with snu := (waterOk u).snu })
      refine ⟨fun hs => ?_, fun hs => ?_, fun hfill hcold => ?_⟩
      · rw [waterOk_fill (hustate.trans hs), enterHeat_state, htemp]
      · rw [waterOk_cold (hustate.trans hs), examineStart_state, htemp, hwanted, huboiler, humoc, hok, if_pos rfl, hcut,
          hustate, hs]
        exact if_congr (by simp only [mayStart]; tauto) rfl rfl
      · rw [waterOk_else (by rw [hustate]; exact hfill) (by rw [hustate]; exact hcold)]
        exact hus
    · change (_ → (waterLost u).blc.state = _ ∧ (waterLost u).pae.grants.boiler = _) ∧
        (_ → _ → waterLost u = { s with snu := (waterLost u).snu })
      refine ⟨fun hs => ?_, fun hheat hready => ?_⟩
      · have hlost := waterLost_hot (s := u) (by rw [hustate]; exact hs)
        rw [hempty] at hlost
        exact hlost
      · rw [waterLost_else (by rw [hustate]; exact hheat) (by rw [hustate]; exact hready)]
        exact hus
  case cutout =>
    have hwater : u.snu.boilerWaterOk = s.snu.boilerWaterOk := hother (x := .boilerWaterOk) (by decide)
    have hempty : u.snu.freshEmpty = s.snu.freshEmpty := hother (x := .freshEmpty) (by decide)
    have hcut : u.snu.boilerCutout.filtered = level := hnew
    have hucause : u.blc.cause = s.blc.cause := by rw [hus]
    refine ⟨fun hl => ?_, fun hl => ?_⟩ <;> subst hl
    · have hlock := lockBoiler_state .cutout u
      rw [hustate, hucause] at hlock
      exact hlock
    · change (examineStart u).blc.cause = _ ∧ (examineStart u).blc.state = _
      refine ⟨(examineStart_cause u).trans hucause, ?_⟩
      rw [examineStart_state, htemp, hwanted, huboiler, humoc, hwater, hempty, hcut, hustate]
      exact if_congr (by simp only [mayStart]; tauto) rfl rfl
  case low =>
    refine ⟨fun hl => ?_, fun hl => ?_, ?_⟩
    · subst hl
      change (raiseSup .freshLow u).supervisor.pending = _
      rw [hus]
      rfl
    · subst hl
      change u.supervisor = _
      rw [hus]
    · cases level with
      | true =>
        change raiseSup .freshLow u = { s with snu := (raiseSup .freshLow u).snu, supervisor := (raiseSup .freshLow u).supervisor }
        rw [hus]
        rfl
      | false =>
        change u = { s with snu := u.snu, supervisor := u.supervisor }
        rw [hus]
  case empty =>
    have hempty : u.snu.freshEmpty.filtered = level := hnew
    refine ⟨fun hl => ?_, fun hl => ?_⟩ <;> subst hl
    · refine ⟨freshEmptied_pending u, ?_⟩
      change (freshEmptied u).blc.state = _
      rw [freshEmptied_state, hustate]
    · change (refill u).blc.state = _
      split
      next h => exact refill_goes (hustate.trans h.1) (by rw [humoc]; exact h.2) hempty
      next h =>
        have hstay : refill u = u := if_neg fun hr => h ⟨hustate.symm.trans hr.1, by rw [← humoc]; exact hr.2.1⟩
        rw [hstay, hustate]
  case cond =>
    have hfull : u.snu.condFull.filtered = level := hnew
    cases level with
    | true =>
      obtain ⟨hpending, hoff, hon, hstill, hstate, hbays⟩ := condFull_rising hus hfull
      refine ⟨fun _ => ⟨hpending, hoff, hon, hstill⟩, fun hl => (by cases hl), hstate,
        fun b => ⟨(hbays b).1, fun c hc => ?_⟩⟩
      obtain ⟨hholds, hstarted⟩ := (hbays b).2 c ((hlaw b).started hc)
      exact ⟨hholds.trans (by simp), hstarted.state⟩
    | false =>
      obtain ⟨hsup, hon, hminOff, hgrant, hstate, hbays⟩ := condFull_falling hus hfull
      refine ⟨fun hl => (by cases hl), fun _ => ⟨hsup, hon, hminOff, hgrant⟩, hstate, fun b => ⟨(hbays b).1, fun c hc => ?_⟩⟩
      obtain ⟨hholds, hstarted⟩ := (hbays b).2 c ((hlaw b).started hc)
      exact ⟨hholds.trans (by simp), hstarted.state⟩

end Sys2Proof.Machine
end

section
/-! What a conversion does to its consumers (R57, R67, R94, R102 to R106, R122, R137). -/

namespace Sys2Proof.Machine

/-! ### Channels -/

section
variable {ch : Analog} {raw : BitVec 10} {v : Nat} {c : Channel}

theorem channelSample_last (hv : convert ch raw = some v) : (channelSample ch raw c).last = some v := by
  rw [channelSample_of_valid hv, validSample_last]

/-- The fifth invalid sample in a row takes the channel to FAULT. -/
theorem channelSample_fails (hnone : convert ch raw = none) (hc : c.state = .unknown ∨ c.state = .stale)
    (hrun : 4 ≤ c.invalidRun) : (channelSample ch raw c).state = .fault ∧ reachesFault c (channelSample ch raw c) = true := by
  have hfault : (channelSample ch raw c).state = .fault := by
    rw [channelSample_of_invalid hnone]
    exact (invalidSample_of_unknown_or_stale (c := withCode raw c) hc).2.2 hrun
  exact ⟨hfault, (reachesFault_iff _ _).mpr ⟨by rcases hc with hc | hc <;> simp [hc], hfault⟩⟩

/-- The first invalid samples of a VALID or STALE channel leave it STALE. -/
theorem channelSample_stale (hnone : convert ch raw = none) (hc : c.state = .valid ∨ (c.state = .stale ∧ c.invalidRun < 4)) :
    (channelSample ch raw c).state = .stale := by
  rw [channelSample_of_invalid hnone]
  rcases hc with hvalid | ⟨hstale, hrun⟩
  · rw [invalidSample_of_valid (c := withCode raw c) hvalid]
  · exact ((invalidSample_of_unknown_or_stale (c := withCode raw c) (.inr hstale)).2.1 hrun).trans hstale

theorem reachesFault_of_state {old new : Channel} (h : new.state ≠ .fault) : reachesFault old new = false := by
  simp [reachesFault, h]

end

/-! ### Goals (R57) -/

section
variable {b : Bay} {s : State} {c : Channel} {k : StepCopy} {x : Context} {kind : StepKind}

/-- The compared step: its samples are counted, and the third satisfied one ends it. -/
theorem compareGoal_counts {goal : Nat} (hk : runningCopy (s.bsq.get b) = some k) (hx : (s.bsq.get b).context = some x)
    (hkind : k.kind = kind) (hgiven : k.goalGiven = true) (hgoal : k.target = some goal) :
    compareGoal kind b c s =
      if 3 ≤ nextSatisfied goal c x.satisfied then
        endStep b .done (setContext b (some { x with satisfied := nextSatisfied goal c x.satisfied }) s)
      else setContext b (some { x with satisfied := nextSatisfied goal c x.satisfied }) s := by
  simp only [compareGoal, hk, hx, hkind, hgiven, and_self, if_true, hgoal]

/-- Any other step is not compared. -/
theorem compareGoal_passes
    (h : ∀ k, runningCopy (s.bsq.get b) = some k → k.kind = kind → k.goalGiven = true → k.target = none) :
    compareGoal kind b c s = s := by
  unfold compareGoal
  split
  next k x hk _ =>
    split
    next hcond =>
      rw [h k hk hcond.1 hcond.2]
    next => rfl
  next => rfl

theorem nextSatisfied_valid {v goal n : Nat} (hstate : c.state = .valid) (hlast : c.last = some v) :
    nextSatisfied goal c n = if v ≤ goal then n + 1 else 0 := by
  have hvalue : validValue c = some v := by simp [validValue, hstate, hlast]
  simp only [nextSatisfied, hvalue]

theorem nextSatisfied_of_not_valid {goal n : Nat} (hstate : c.state ≠ .valid) : nextSatisfied goal c n = 0 := by
  simp only [nextSatisfied, validValue_eq_none hstate]

theorem parkSample_of_not_parking (h : (s.bsq.get b).state ≠ .parking) : parkSample b s = s := if_neg fun hp => h hp.1

/-- What a sample that leaves the channel VALID does to a running step of the compared kind (R57, R141). -/
theorem compareGoal_valid {v : Nat} (hk : runningCopy (s.bsq.get b) = some k) (hx : (s.bsq.get b).context = some x)
    (hkind : k.kind = kind) (hstate : c.state = .valid) (hlast : c.last = some v) :
    (∀ goal, k.goalGiven = true → k.target = some goal →
      (goal < v → compareGoal kind b c s = setContext b (some { x with satisfied := 0 }) s) ∧
      (v ≤ goal → x.satisfied < 2 →
        compareGoal kind b c s = setContext b (some { x with satisfied := x.satisfied + 1 }) s) ∧
      (v ≤ goal → 2 ≤ x.satisfied → compareGoal kind b c s =
        endStep b .done (setContext b (some { x with satisfied := x.satisfied + 1 }) s))) ∧
    (k.goalGiven = false → compareGoal kind b c s = s) := by
  refine ⟨fun goal hgiven hgoal => ?_, fun hgiven => compareGoal_passes fun k' hk' _ hgiven' => ?_⟩
  · rw [compareGoal_counts hk hx hkind hgiven hgoal, nextSatisfied_valid hstate hlast]
    refine ⟨fun hv => ?_, fun hv hn => ?_, fun hv hn => ?_⟩
    · rw [if_neg (by omega : ¬ v ≤ goal), if_neg (by omega)]
    · rw [if_pos hv, if_neg (by omega)]
    · rw [if_pos hv, if_pos (by omega)]
  · obtain rfl : k = k' := Option.some.inj (hk.symm.trans hk')
    simp [hgiven] at hgiven'

/-- A sample that leaves the channel other than VALID only sets the count of a compared step back. -/
theorem compareGoal_not_valid (hstate : c.state ≠ .valid) :
    (∀ k x, runningCopy (s.bsq.get b) = some k → (s.bsq.get b).context = some x →
      k.goalGiven = true ∧ k.target.isSome = true ∧ k.kind = kind →
      compareGoal kind b c s = setContext b (some { x with satisfied := 0 }) s) ∧
    (runningCopy (s.bsq.get b) = none ∨ (∃ k, runningCopy (s.bsq.get b) = some k ∧
      ¬ (k.goalGiven = true ∧ k.target.isSome = true ∧ k.kind = kind)) → compareGoal kind b c s = s) := by
  refine ⟨fun k x hk hx ⟨hgiven, htarget, hkind⟩ => ?_, fun hno => compareGoal_passes fun k hk hkind hgiven => ?_⟩
  · obtain ⟨goal, hgoal⟩ := Option.isSome_iff_exists.mp htarget
    rw [compareGoal_counts hk hx hkind hgiven hgoal, nextSatisfied_of_not_valid hstate]
    rfl
  · rcases hno with hnone | ⟨k', hk', hnot⟩
    · rw [hnone] at hk
      cases hk
    · obtain rfl : k = k' := Option.some.inj (hk.symm.trans hk')
      cases htarget : k.target with
      | none => rfl
      | some goal => exact absurd ⟨hgiven, by simp [htarget], hkind⟩ hnot

theorem compareGoal_form_of_not_valid (hstate : c.state ≠ .valid) :
    compareGoal kind b c s = s ∨ ∃ ctx, compareGoal kind b c s = setContext b ctx s := by
  unfold compareGoal
  split
  next =>
    split
    next =>
      split
      next =>
        simp only [nextSatisfied_of_not_valid hstate]
        exact .inr ⟨_, rfl⟩
      next => exact .inl rfl
    next => exact .inl rfl
  next => exact .inl rfl

end

/-! ### What follows the comparison -/

/-- A bay in which no sample ends a park, and in which a channel becoming VALID finds nothing more to take in. -/
structure Settled (b : Bay) (s : State) : Prop where
  parking : (s.bsq.get b).state ≠ .parking
  examined : examineAdmission b s = s

section
variable {b : Bay} {s : State} {old new : Channel}

theorem Settled.of_running {k : StepCopy} (hk : runningCopy (s.bsq.get b) = some k) : Settled b s := by
  have hs := state_of_runningCopy hk
  exact ⟨by simp [hs], examineAdmission_of_not_idle (by simp [hs])⟩

theorem Settled.channelBack (h : Settled b s) : channelBack b old new s = s := by
  unfold Machine.channelBack
  split
  · exact h.examined
  · rfl

theorem Settled.parkSample (h : Settled b s) : parkSample b s = s := parkSample_of_not_parking h.parking

/-- After the final step's end admission has been examined already (R34). -/
theorem Settled.programEnded (result : Result) (x : Context) :
    Settled b (examineAdmission b (programEnded b result x s)) := by
  refine ⟨?_, examineAdmission_again b _⟩
  have hidle : ((Machine.programEnded b result x s).bsq.get b).state = .idle := by
    rw [Machine.programEnded, becomeIdle_bsq, PerBay.get_set_same]
  obtain ⟨u, hu, hend⟩ := examineAdmission_form b (Machine.programEnded b result x s)
  rcases hend with hend | ⟨program, hprogram, hend⟩
  · rw [hend, hu.rest.1, hidle]
    simp
  · have hgoes := acceptProgram_inProgress hprogram
    rw [hend]
    intro hs
    simp [inProgress, hs] at hgoes

theorem runningCopy_setContext {x y : Context} {k : StepCopy} (hk : runningCopy (s.bsq.get b) = some k)
    (hx : (s.bsq.get b).context = some x) (hcopies : contextCopy y = contextCopy x) :
    runningCopy ((setContext b (some y) s).bsq.get b) = some k := by
  rw [← hk]
  simp [runningCopy, currentCopy, setContext, hx, hcopies]

end

/-! ### Bay conversions -/

section
variable {b : Bay} {s : State} {old new : Channel}

theorem channelFault_of_no_fault (h : reachesFault old new = false) : channelFault b old new s = s := by
  simp [channelFault, h]

/-- A channel that reaches FAULT parks a program in progress and marks a park already under way (R67). -/
theorem channelFault_bsq (h : reachesFault old new = true) :
    (inProgress (s.bsq.get b) = true →
      ((channelFault b old new s).bsq.get b).state = .parking ∧
      ((channelFault b old new s).bsq.get b).faultAfterPark = true ∧ ((channelFault b old new s).bsq.get b).context =
        (s.bsq.get b).context.map (fun x => { x with pendingResult := some .faulted })) ∧
    ((s.bsq.get b).state = .parking →
      (channelFault b old new s).bsq.get b = { s.bsq.get b with faultAfterPark := true }) := by
  rw [channelFault, if_pos h]
  refine ⟨fun hgoes => ?_, fun hs => ?_⟩
  · have hs : (s.bsq.get b).state ≠ .parking := by
      intro hs
      simp [inProgress, hs] at hgoes
    have hpark : baySensorFault b (raiseSup .sensorFault s) = enterParking b .faulted (raiseSup .sensorFault s) := by
      unfold baySensorFault
      split
      next hp => exact absurd hp hs
      next => rfl
    rw [hpark, enterParking_bsq b .faulted (raiseSup .sensorFault s) hgoes]
    simp
  · have hmark : baySensorFault b (raiseSup .sensorFault s) =
        setBsq b { s.bsq.get b with faultAfterPark := true } (raiseSup .sensorFault s) := by
      simp [baySensorFault, hs]
    rw [hmark, setBsq_bsq, PerBay.get_set_same]

theorem temperatureTaken_of_no_fault (h : reachesFault old new = false) :
    temperatureTaken b old new s =
      formDemand b (if leavesValid old new || atLimit b new s then withdrawAux b s else s) := by
  rw [temperatureTaken, channelFault_of_no_fault h]

theorem temperatureTaken_oau_of_no_fault (h : reachesFault old new = false) :
    (temperatureTaken b old new s).oau = s.oau := by
  rw [temperatureTaken_of_no_fault h, formDemand_oau]
  split <;> simp

theorem atLimit_of_not_valid (h : new.state ≠ .valid) : atLimit b new s = false := by
  unfold atLimit
  rw [validValue_eq_none h]
  split
  next _ hv => cases hv
  next => rfl

theorem atLimit_valid {k : StepCopy} {limit v : Nat} (hk : runningCopy (s.bsq.get b) = some k)
    (hlimit : k.tempLimit = some limit) (hstate : new.state = .valid) (hlast : new.last = some v) :
    atLimit b new s = decide (limit ≤ v) := by
  have hvalue : validValue new = some v := by simp [validValue, hstate, hlast]
  simp only [atLimit, hk, hvalue, hlimit]

end

section
variable {b : Bay} {s : State} {raw : BitVec 10} {v : Nat}

theorem takeTemperature_eq (b : Bay) (raw : BitVec 10) (s : State) :
    let old := channelOf s.snu (.bayTemperature b)
    let new := channelSample (.bayTemperature b) raw old
    takeAnalog (.bayTemperature b) raw s =
      channelBack b old new (parkSample b (compareGoal .cool b new
        (temperatureTaken b old new (withConversion (.bayTemperature b) raw s)))) := rfl

theorem takeHumidity_eq (b : Bay) (raw : BitVec 10) (s : State) :
    let old := channelOf s.snu (.bayHumidity b)
    let new := channelSample (.bayHumidity b) raw old
    takeAnalog (.bayHumidity b) raw s =
      channelBack b old new (compareGoal .dry b new
        (channelFault b old new (withConversion (.bayHumidity b) raw s))) := rfl

theorem takeBoiler_eq (raw : BitVec 10) (s : State) :
    takeAnalog .boilerTemperature raw s =
      consumeBoiler (channelOf s.snu .boilerTemperature)
        (channelSample .boilerTemperature raw (channelOf s.snu .boilerTemperature))
        (withConversion .boilerTemperature raw s) := rfl

theorem withConversion_temp (b : Bay) (raw : BitVec 10) (s : State) :
    (withConversion (.bayTemperature b) raw s).snu.temps.get b =
      channelSample (.bayTemperature b) raw (s.snu.temps.get b) :=
  withConversion_channelOf_same (ch := .bayTemperature b)

theorem withConversion_blc (ch : Analog) (raw : BitVec 10) (s : State) : (withConversion ch raw s).blc = s.blc := rfl

/-- A bay channel that reaches FAULT, in a bay with a program in progress or parking (R67). -/
theorem takeAnalog_fails {ch : Analog} (hch : ch = .bayTemperature b ∨ ch = .bayHumidity b)
    (hnone : convert ch raw = none)
    (hfails : ((channelOf s.snu ch).state = .unknown ∨ (channelOf s.snu ch).state = .stale) ∧
      4 ≤ (channelOf s.snu ch).invalidRun)
    (hbay : inProgress (s.bsq.get b) = true ∨ (s.bsq.get b).state = .parking) :
    (takeAnalog ch raw s).bsq = (channelFault b (channelOf s.snu ch) (channelSample ch raw (channelOf s.snu ch))
      (withConversion ch raw s)).bsq := by
  obtain ⟨hfault, hreaches⟩ := channelSample_fails (raw := raw) hnone hfails.1 hfails.2
  have hnew : (channelSample ch raw (channelOf s.snu ch)).state ≠ .valid := by simp [hfault]
  obtain ⟨hparks, hmarks⟩ := channelFault_bsq (b := b) (s := withConversion ch raw s) hreaches
  have hparking : ((channelFault b (channelOf s.snu ch) (channelSample ch raw (channelOf s.snu ch))
      (withConversion ch raw s)).bsq.get b).state = .parking := by
    rcases hbay with hgoes | hs
    · exact (hparks hgoes).1
    · rw [hmarks hs]
      exact hs
  rcases hch with rfl | rfl
  · rw [takeTemperature_eq]
    rw [compareGoal_of_not_running _ (by rw [temperatureTaken_bsq]; exact ne_of_eq_of_ne hparking (by simp)),
      parkSample_of_not_valid, channelBack_of_not_valid hnew, temperatureTaken_bsq]
    · rw [(temperatureTaken_kept b _ _ _).snu, withConversion_temp]
      exact hnew
  · rw [takeHumidity_eq]
    rw [compareGoal_of_not_running _ (ne_of_eq_of_ne hparking (by simp)), channelBack_of_not_valid hnew]

theorem takeAnalog_fails_bay {ch : Analog} (hch : ch = .bayTemperature b ∨ ch = .bayHumidity b)
    (hnone : convert ch raw = none)
    (hfails : ((channelOf s.snu ch).state = .unknown ∨ (channelOf s.snu ch).state = .stale) ∧
      4 ≤ (channelOf s.snu ch).invalidRun) :
    let q := (takeAnalog ch raw s).bsq.get b
    (inProgress (s.bsq.get b) = true → q.state = .parking ∧ q.faultAfterPark = true ∧
      q.context = (s.bsq.get b).context.map (fun x => { x with pendingResult := some .faulted })) ∧
    ((s.bsq.get b).state = .parking → q = { s.bsq.get b with faultAfterPark := true }) := by
  obtain ⟨u, hu⟩ : ∃ u, u = withConversion ch raw s := ⟨_, rfl⟩
  have hbsq : u.bsq = s.bsq := by
    rw [hu]
    rfl
  obtain ⟨hparks, hmarks⟩ := channelFault_bsq (b := b) (s := u) (channelSample_fails (raw := raw) hnone hfails.1 hfails.2).2
  rw [hbsq] at hparks hmarks
  refine ⟨fun hgoes => ?_, fun hs => ?_⟩
  · rw [takeAnalog_fails hch hnone hfails (.inl hgoes), ← hu]
    exact hparks hgoes
  · rw [takeAnalog_fails hch hnone hfails (.inr hs), ← hu]
    exact hmarks hs

/-- A VALID sample of the channel compared with a running step: the comparison alone decides what becomes of the bay. -/
theorem takeAnalog_compared {ch : Analog} {k : StepCopy}
    (hch : (ch = .bayTemperature b ∧ k.kind = .cool) ∨ (ch = .bayHumidity b ∧ k.kind = .dry))
    (hv : convert ch raw = some v) (hstate : (channelOf s.snu ch).state ≠ .fault) :
    ∃ new w, new.state = .valid ∧ new.last = some v ∧ w.bsq = s.bsq ∧ w.oau = s.oau ∧
      (Settled b (compareGoal k.kind b new w) → takeAnalog ch raw s = compareGoal k.kind b new w) := by
  have hvalid := (channelSample_valid (raw := raw) hv).1 (.inl hstate)
  have hreaches := reachesFault_of_state (old := channelOf s.snu ch) (new := channelSample ch raw (channelOf s.snu ch))
    (by simp [hvalid])
  refine ⟨channelSample ch raw (channelOf s.snu ch), ?_⟩
  rcases hch with ⟨rfl, hkind⟩ | ⟨rfl, hkind⟩
  · refine ⟨temperatureTaken b _ _ (withConversion (.bayTemperature b) raw s), hvalid, channelSample_last hv,
      (temperatureTaken_bsq _ _ _ _).trans (by rw [channelFault_of_no_fault hreaches]; rfl),
      temperatureTaken_oau_of_no_fault hreaches, fun hset => ?_⟩
    rw [hkind] at hset ⊢
    rw [takeTemperature_eq]
    rw [hset.parkSample, hset.channelBack]
  · refine ⟨withConversion (.bayHumidity b) raw s, hvalid, channelSample_last hv, rfl, rfl, fun hset => ?_⟩
    rw [hkind] at hset ⊢
    rw [takeHumidity_eq]
    rw [channelFault_of_no_fault hreaches, hset.channelBack]

/-- The counts of a running step compared with the sample (R57). -/
theorem takeAnalog_counts {ch : Analog} {k : StepCopy} {x : Context}
    (hch : (ch = .bayTemperature b ∧ k.kind = .cool) ∨ (ch = .bayHumidity b ∧ k.kind = .dry))
    (hk : runningCopy (s.bsq.get b) = some k) (hx : (s.bsq.get b).context = some x)
    (hv : convert ch raw = some v) (hstate : (channelOf s.snu ch).state ≠ .fault) :
    let t := takeAnalog ch raw s
    (∀ goal, k.goalGiven = true → k.target = some goal →
      (goal < v → (t.bsq.get b).context = some { x with satisfied := 0 }) ∧
      (v ≤ goal → x.satisfied < 2 → (t.bsq.get b).context = some { x with satisfied := x.satisfied + 1 }) ∧
      (v ≤ goal → 2 ≤ x.satisfied → x.stepCount ≤ x.index + 1 → ∃ rec posted,
        (t.oau.get b).records = (s.oau.get b).records ++ rec :: posted ∧ rec.result = .done ∧ rec.final = true)) ∧
    (k.goalGiven = false → t.bsq.get b = s.bsq.get b) := by
  obtain ⟨new, w, hvalid, hlast, hbsq, hoau, htake⟩ := takeAnalog_compared hch hv hstate
  have hkw : runningCopy (w.bsq.get b) = some k := by rw [hbsq]; exact hk
  have hxw : (w.bsq.get b).context = some x := by rw [hbsq]; exact hx
  obtain ⟨hgoal, hpasses⟩ := compareGoal_valid hkw hxw rfl hvalid hlast
  have hcounted (n : Nat) : Settled b (setContext b (some { x with satisfied := n }) w) :=
    .of_running (runningCopy_setContext hkw hxw rfl)
  have hcontext (n : Nat) : ((setContext b (some { x with satisfied := n }) w).bsq.get b).context =
      some { x with satisfied := n } := by simp [setContext]
  refine ⟨fun goal hgiven htarget => ?_, fun hgiven => ?_⟩
  · obtain ⟨hback, hcounts, hends⟩ := hgoal goal hgiven htarget
    refine ⟨fun hlt => ?_, fun hle hn => ?_, fun hle hn hfinal => ?_⟩
    · rw [htake (hback hlt ▸ hcounted 0), hback hlt, hcontext]
    · rw [htake (hcounts hle hn ▸ hcounted _), hcounts hle hn, hcontext]
    · have hended := (hends hle hn).trans (endStep_of_final .done (hcontext _) (decide_eq_true hfinal))
      rw [htake (hended ▸ .programEnded .done _), hended]
      obtain ⟨posted, hposted⟩ := examineAdmission_posts (b := b)
        (s := programEnded b .done { x with satisfied := x.satisfied + 1 }
          (setContext b (some { x with satisfied := x.satisfied + 1 }) w))
      rw [hposted, programEnded_records, setContext_oau, hoau, List.append_assoc]
      exact ⟨_, posted, rfl, rfl, rfl⟩
  · have hsame := hpasses hgiven
    rw [htake (hsame.symm ▸ .of_running hkw), hsame, hbsq]

/-- The demand formed at a VALID temperature sample, and the grant withdrawn at the limit (R94, R122). -/
theorem takeTemperature_heater {k : StepCopy} {limit : Nat} (hk : runningCopy (s.bsq.get b) = some k)
    (hkind : k.kind = .dry ∨ k.kind = .refresh) (hlimit : k.tempLimit = some limit)
    (hv : convert (.bayTemperature b) raw = some v) (hstate : (s.snu.temps.get b).state ≠ .fault) :
    let t := takeAnalog (.bayTemperature b) raw s
    (t.alc.bays.get b).demand = 50 * min (limit - v) k.level ∧
      (limit ≤ v → t.pae.grants.aux.get b = 0 ∧ (t.alc.bays.get b).drive = 0) := by
  obtain ⟨u, hu⟩ : ∃ u, u = withConversion (.bayTemperature b) raw s := ⟨_, rfl⟩
  obtain ⟨old, hold⟩ : ∃ old, old = channelOf s.snu (.bayTemperature b) := ⟨_, rfl⟩
  obtain ⟨new, hnew⟩ : ∃ new, new = channelSample (.bayTemperature b) raw old := ⟨_, rfl⟩
  have hvalid : new.state = .valid := hnew ▸ (channelSample_valid hv).1 (.inl (hold ▸ hstate))
  have hlast : new.last = some v := hnew ▸ channelSample_last hv
  have hreaches := reachesFault_of_state (old := old) (new := new) (by simp [hvalid])
  have hku : runningCopy (u.bsq.get b) = some k := by rw [hu]; exact hk
  have htemp : u.snu.temps.get b = new := by
    rw [hu, hnew, hold, withConversion_temp]
    rfl
  have hbsq : (temperatureTaken b old new u).bsq = u.bsq := by
    rw [temperatureTaken_bsq, channelFault_of_no_fault hreaches]
  have hktaken : runningCopy ((temperatureTaken b old new u).bsq.get b) = some k := by rw [hbsq, hku]
  have hsettled : Settled b (temperatureTaken b old new u) := .of_running hktaken
  have hpasses : compareGoal .cool b new (temperatureTaken b old new u) =
      temperatureTaken b old new u := compareGoal_passes fun k' hk' hcool => by
    obtain rfl : k = k' := Option.some.inj (hktaken.symm.trans hk')
    rcases hkind with h | h <;> simp [h] at hcool
  have htake : takeAnalog (.bayTemperature b) raw s = temperatureTaken b old new u := by
    rw [takeTemperature_eq, ← hold, ← hnew, ← hu]
    rw [hpasses, hsettled.parkSample, hsettled.channelBack]
  have hdemand : auxDemand b u = 50 * min (limit - v) k.level := by
    simp [auxDemand, hku, htemp, hkind, hvalid, hlimit, hlast, auxQuantum]
  have hformed (c : Bool) : auxDemand b (if c then withdrawAux b u else u) = auxDemand b u := by
    split
    · exact auxDemand_congr rfl rfl
    · rfl
  rw [htake]
  refine ⟨?_, fun hle => temperatureTaken_heatOff (.inr (.inl ?_))⟩
  · rw [temperatureTaken_of_no_fault hreaches, formDemand_outputs, hformed, hdemand]
  · rw [channelFault_of_no_fault hreaches, atLimit_valid hku hlimit hvalid hlast]
    exact decide_eq_true hle

/-- A VALID boiler sample is compared with the thresholds (R102 to R104, R106). -/
theorem takeBoiler_valid (hv : convert .boilerTemperature raw = some v) (hstate : s.snu.boilerTemp.state = .valid) :
    takeAnalog .boilerTemperature raw s = compareBoiler v (withConversion .boilerTemperature raw s) := by
  have hold : (channelOf s.snu .boilerTemperature).state = .valid := hstate
  rw [takeBoiler_eq]
  generalize channelOf s.snu .boilerTemperature = old at hold ⊢
  have hvalid := (channelSample_valid (raw := raw) hv).1 (.inl (by simp [hold]) : old.state ≠ .fault ∨ _)
  have hvalue : validValue (channelSample .boilerTemperature raw old) = some v := by
    simp [validValue, hvalid, channelSample_last hv]
  simp [consumeBoiler, reachesFault_of_state, hvalid, hvalue, becomesValid, hold]

theorem compareBoiler_state (v : Nat) (u : State) :
    (150 ≤ v → u.blc.state ≠ .locked →
      (compareBoiler v u).blc.state = .locked ∧ (compareBoiler v u).blc.cause = .overTemperature) ∧
    (v < 150 → (compareBoiler v u).blc.state =
      if u.blc.state = .heat ∧ 102 ≤ v then .ready else if u.blc.state = .ready ∧ v < 96 then .heat
      else u.blc.state) := by
  unfold compareBoiler
  refine ⟨fun hle hstate => ?_, fun hlt => ?_⟩
  · obtain ⟨hlocked, hcause⟩ := lockBoiler_state .overTemperature u
    rw [if_pos (show lockTemp ≤ v from hle)]
    exact ⟨hlocked, hcause.trans (if_neg hstate)⟩
  · rw [if_neg (by simpa [lockTemp] using hlt)]
    rw [show readyTemp = 102 from rfl, show reheatTemp = 96 from rfl]
    split
    next => exact toBoiler_state _ _
    next =>
      split
      next => exact toBoiler_state _ _
      next => rfl

end

/-! ### A conversion that leaves the channel STALE -/

section
variable {b : Bay} {s : State} {raw : BitVec 10}

/-- A temperature sample that leaves the channel STALE takes the heater's grant as the channel leaves VALID (R94, R122). -/
theorem temperatureTaken_stale {old new : Channel} {u : State} (hstale : new.state = .stale) :
    temperatureTaken b old new u = formDemand b (if old.state = .valid then withdrawAux b u else u) := by
  have hleaves : leavesValid old new = decide (old.state = .valid) := by simp [leavesValid, hstale]
  rw [temperatureTaken_of_no_fault (reachesFault_of_state (by simp [hstale])), hleaves,
    atLimit_of_not_valid (by simp [hstale])]
  simp

/-- What the consumers of a bay channel leave at a sample that leaves it STALE: the comparison with a goal on a state in which
only the channel and, for a temperature, the heater moved. -/
theorem takeAnalog_stale {ch : Analog} {kind : StepKind}
    (hch : (ch = .bayTemperature b ∧ kind = .cool) ∨ (ch = .bayHumidity b ∧ kind = .dry))
    (hstale : (channelSample ch raw (channelOf s.snu ch)).state = .stale) :
    ∃ w, takeAnalog ch raw s = compareGoal kind b (channelSample ch raw (channelOf s.snu ch)) w ∧
      (ch = .bayTemperature b → w = formDemand b (if (channelOf s.snu ch).state = .valid then
        withdrawAux b (withConversion ch raw s) else withConversion ch raw s)) ∧
      (ch = .bayHumidity b → w = withConversion ch raw s) := by
  have hnew : (channelSample ch raw (channelOf s.snu ch)).state ≠ .valid := by simp [hstale]
  rcases hch with ⟨rfl, rfl⟩ | ⟨rfl, rfl⟩
  · refine ⟨_, ?_, fun _ => temperatureTaken_stale hstale, fun h => by cases h⟩
    rw [takeTemperature_eq, channelBack_of_not_valid hnew, parkSample_of_not_valid]
    rw [(compareGoal_kept b _ _ .cool).snu, (temperatureTaken_kept b _ _ _).snu, withConversion_temp]
    exact hnew
  · refine ⟨_, ?_, (fun h => by cases h), fun _ => rfl⟩
    rw [takeHumidity_eq, channelBack_of_not_valid hnew, channelFault_of_no_fault (reachesFault_of_state (by simp [hstale]))]

/-- The comparison with a goal, where the sample is not VALID, moves the sequencer alone. -/
theorem compareGoal_stale (kind : StepKind) {new : Channel} {w : State} (hnew : new.state ≠ .valid) :
    let t := compareGoal kind b new w
    t.alc = w.alc ∧ t.pae = w.pae ∧ t.srs = w.srs ∧ t.oau = w.oau ∧ t.blc = w.blc ∧ t.panels = w.panels ∧
      t.supervisor = w.supervisor := by
  rcases compareGoal_form_of_not_valid (kind := kind) (b := b) (s := w) hnew with h | ⟨ctx, h⟩
  · rw [h]
    exact ⟨rfl, rfl, rfl, rfl, rfl, rfl, rfl⟩
  · rw [h]
    exact ⟨rfl, rfl, rfl, rfl, rfl, rfl, rfl⟩

theorem auxDemand_of_stale {u : State} (h : (u.snu.temps.get b).state = .stale) : auxDemand b u = 0 := by
  unfold auxDemand
  split <;> simp [h]

theorem takeBoiler_stale
    (hstale : (channelSample .boilerTemperature raw (channelOf s.snu .boilerTemperature)).state = .stale) :
    takeAnalog .boilerTemperature raw s = withConversion .boilerTemperature raw s := by
  rw [takeBoiler_eq]
  simp [consumeBoiler, reachesFault_of_state, hstale, validValue_eq_none, becomesValid]

end

/-- The step compared with a channel's samples. -/
theorem compared_iff {b : Bay} {ch : Analog} {kind : StepKind} {k : StepCopy}
    (hch : (ch = .bayTemperature b ∧ kind = .cool) ∨ (ch = .bayHumidity b ∧ kind = .dry)) :
    ((ch = .bayTemperature b ∧ k.kind = .cool) ∨ (ch = .bayHumidity b ∧ k.kind = .dry)) ↔ k.kind = kind := by
  rcases hch with ⟨rfl, rfl⟩ | ⟨rfl, rfl⟩ <;> simp

/-- What a sample that leaves a bay channel STALE does to its bay (R57, R94, R122). -/
theorem takeAnalog_stale_bay {b : Bay} {ch : Analog} {raw : BitVec 10} {s : State}
    (hbay : ch = .bayTemperature b ∨ ch = .bayHumidity b)
    (hstale : (channelSample ch raw (channelOf s.snu ch)).state = .stale) :
    let t := takeAnalog ch raw s
    let q := s.bsq.get b
    let compared := fun (k : StepCopy) => k.goalGiven = true ∧ k.target.isSome = true ∧
      ((ch = .bayTemperature b ∧ k.kind = .cool) ∨ (ch = .bayHumidity b ∧ k.kind = .dry))
    (∀ k x, runningCopy q = some k → q.context = some x → compared k →
      t.bsq = s.bsq.set b { q with context := some { x with satisfied := 0 } }) ∧
    (runningCopy q = none ∨ (∃ k, runningCopy q = some k ∧ ¬ compared k) → t.bsq = s.bsq) ∧
    (ch = .bayTemperature b →
      (t.alc.bays.get b).demand = 0 ∧
      ((channelOf s.snu ch).state = .valid → (t.alc.bays.get b).drive = 0 ∧
        t.pae = { s.pae with grants := { s.pae.grants with
          aux := s.pae.grants.aux.set b 0
          class2 := s.pae.grants.class2 - s.pae.grants.aux.get b
          unallotted := s.pae.grants.unallotted + s.pae.grants.aux.get b } })) ∧
    (ch = .bayHumidity b → t.alc = s.alc ∧ t.pae = s.pae) ∧
    t.srs = s.srs ∧ t.oau = s.oau ∧ t.blc = s.blc ∧ t.panels = s.panels ∧ t.supervisor = s.supervisor := by
  intro t q compared
  obtain ⟨kind, hch⟩ : ∃ kind, (ch = .bayTemperature b ∧ kind = StepKind.cool) ∨
      (ch = .bayHumidity b ∧ kind = StepKind.dry) := by
    rcases hbay with h | h
    · exact ⟨.cool, .inl ⟨h, rfl⟩⟩
    · exact ⟨.dry, .inr ⟨h, rfl⟩⟩
  have hcompared (k : StepCopy) : compared k ↔ k.goalGiven = true ∧ k.target.isSome = true ∧ k.kind = kind :=
    and_congr_right fun _ => and_congr_right fun _ => compared_iff hch
  obtain ⟨u, hu⟩ : ∃ u, u = withConversion ch raw s := ⟨_, rfl⟩
  have hukept : u.bsq = s.bsq ∧ u.srs = s.srs ∧ u.oau = s.oau ∧ u.blc = s.blc ∧ u.panels = s.panels ∧
      u.supervisor = s.supervisor ∧ u.alc = s.alc ∧ u.pae = s.pae := by
    rw [hu]
    exact ⟨rfl, rfl, rfl, rfl, rfl, rfl, rfl, rfl⟩
  obtain ⟨hubsq, husrs, huoau, hublc, hupanels, husupervisor, hualc, hupae⟩ := hukept
  obtain ⟨w, htake, htemp, hhum⟩ := takeAnalog_stale hch hstale
  rw [← hu] at htemp hhum
  obtain ⟨halc, hpae, hsrs, hoau, hblc, hpanels, hsupervisor⟩ := compareGoal_stale (b := b) kind (w := w)
    (new := channelSample ch raw (channelOf s.snu ch)) (by simp [hstale])
  obtain ⟨hcounts, hpasses⟩ := compareGoal_not_valid (b := b) (s := w) (kind := kind)
    (c := channelSample ch raw (channelOf s.snu ch)) (by simp [hstale])
  rw [← htake] at halc hpae hsrs hoau hblc hpanels hsupervisor hcounts hpasses
  have hwkept : w.bsq = u.bsq ∧ w.srs = u.srs ∧ w.oau = u.oau ∧ w.blc = u.blc ∧ w.panels = u.panels ∧
      w.supervisor = u.supervisor := by
    rcases hbay with h | h
    · rw [htemp h]
      split <;> simp
    · rw [hhum h]
      exact ⟨rfl, rfl, rfl, rfl, rfl, rfl⟩
  obtain ⟨hwbsq, hwsrs, hwoau, hwblc, hwpanels, hwsupervisor⟩ := hwkept
  rw [hwbsq, hubsq] at hcounts hpasses
  refine ⟨fun k x hk hx hc => ?_, fun hno => ?_, fun h => ⟨?_, fun hvalid => ⟨?_, ?_⟩⟩, fun h => ⟨?_, ?_⟩,
    (hsrs.trans hwsrs).trans husrs, (hoau.trans hwoau).trans huoau, (hblc.trans hwblc).trans hublc,
    (hpanels.trans hwpanels).trans hupanels, (hsupervisor.trans hwsupervisor).trans husupervisor⟩
  · refine (congrArg State.bsq (hcounts k x hk hx ((hcompared k).mp hc))).trans ?_
    rw [setContext, setBsq_bsq, hwbsq, hubsq]
  · have hnot : t = w :=
      hpasses (hno.imp_right fun ⟨k, hk, hnot⟩ => ⟨k, hk, fun hc => hnot ((hcompared k).mpr hc)⟩)
    rw [hnot, hwbsq, hubsq]
  · rw [show t.alc = w.alc from halc, htemp h, formDemand_outputs]
    refine auxDemand_of_stale ?_
    subst h
    rw [apply_ite State.snu, withdrawAux_snu, ite_self, hu, withConversion_temp]
    exact hstale
  · rw [show t.alc = w.alc from halc, htemp h, if_pos hvalid, formDemand_outputs, withdrawAux_outputs]
  · rw [show t.pae = w.pae from hpae, htemp h, if_pos hvalid, ← hupae]
    rfl
  · exact halc.trans (by rw [hhum h, hualc])
  · exact hpae.trans (by rw [hhum h, hupae])

/-- Settles O54: each consumer acts on the state the channel's move has left; a step compared by the sample ends with it. -/
theorem conversionsReachTheirConsumers : Obligations.ConversionsReachTheirConsumers := by
  intro raw s hphase fails
  have hexec {ch : Analog} (hfit : channelFitted s ch = true) :
      exec (.analogSample ch raw) s = .next (takeAnalog ch raw s) := exec_analogSample_sampled hphase hfit
  have hfitted {b : Bay} {ch : Analog} (hch : ch = .bayTemperature b ∨ ch = .bayHumidity b)
      (hf : s.fitted.get b = true) : channelFitted s ch = true := by rcases hch with rfl | rfl <;> exact hf
  refine ⟨fun b ch hch hf hnone hfails => ⟨_, hexec (hfitted hch hf), takeAnalog_fails_bay hch hnone hfails⟩,
    fun b v k x hf hk hx => ⟨fun ch hch hv hstate => ⟨_, hexec (hfitted (hch.imp And.left And.left) hf),
      takeAnalog_counts hch hk hx hv hstate⟩, fun limit hkind hlimit hv hstate =>
      ⟨_, hexec hf, takeTemperature_heater hk hkind hlimit hv hstate⟩⟩,
    fun v hv hstate => ⟨_, hexec rfl, ?_⟩, fun hnone hfails => ⟨_, hexec rfl, ?_⟩,
    fun ch hfit hnone hstate => ⟨_, hexec hfit, ?_⟩⟩
  · have hmoved := compareBoiler_state v (withConversion .boilerTemperature raw s)
    rw [← takeBoiler_valid hv hstate, withConversion_blc] at hmoved
    exact hmoved
  · have hlocked := lockBoiler_state .sensor (raiseSup .sensorFault (withConversion .boilerTemperature raw s))
    rw [raiseSup_blc, withConversion_blc] at hlocked
    have hreaches := (channelSample_fails (c := channelOf s.snu .boilerTemperature) hnone hfails.1 hfails.2).2
    rw [takeBoiler_eq, consumeBoiler, if_pos hreaches]
    exact hlocked
  · have hstale := channelSample_stale hnone hstate
    have hsnu : (takeAnalog ch raw s).snu = (withConversion ch raw s).snu := (takeAnalog_kept ch raw s).snu
    refine ⟨by rw [hsnu, withConversion_channelOf_same, hstale], fun hboiler => ?_,
      fun b hbay => takeAnalog_stale_bay hbay hstale⟩
    subst hboiler
    rw [takeBoiler_stale hstale]
    rfl

end Sys2Proof.Machine
end

section
/-! A yield of steam: what the boiler keeps of it and what a credit does to its bay (R56, R110 to R114). -/

namespace Sys2Proof.Machine

/-! ### A bay's move while the boiler stays READY -/

/-- Of the plant only the timer of an unwanted boiler, and of the bays only bay b, may have moved. -/
structure SteamMove (b : Bay) (s t : State) : Prop where
  bsq : ∀ c, c ≠ b → t.bsq.get c = s.bsq.get c
  srs : ∀ c, c ≠ b → t.srs.get c = s.srs.get c
  oau : ∀ c, c ≠ b → t.oau.get c = s.oau.get c
  blc : t.blc = { s.blc with valves := t.blc.valves, idleTimer := t.blc.idleTimer }
  snu : t.snu = s.snu
  pts : t.pts = s.pts
  moc : t.moc = s.moc
  pli : t.pli = s.pli
  supervisor : t.supervisor = s.supervisor
  untaken : t.untaken = s.untaken

namespace SteamMove

variable {b : Bay} {s t u : State}

theorem refl (b : Bay) (s : State) : SteamMove b s s := by constructor <;> intros <;> rfl

theorem trans (h : SteamMove b s t) (k : SteamMove b t u) : SteamMove b s u where
  bsq c hc := (k.bsq c hc).trans (h.bsq c hc)
  srs c hc := (k.srs c hc).trans (h.srs c hc)
  oau c hc := (k.oau c hc).trans (h.oau c hc)
  blc := k.blc.trans (by rw [h.blc])
  snu := k.snu.trans h.snu
  pts := k.pts.trans h.pts
  moc := k.moc.trans h.moc
  pli := k.pli.trans h.pli
  supervisor := k.supervisor.trans h.supervisor
  untaken := k.untaken.trans h.untaken

theorem of_bay (h : BayFrame b s t) : SteamMove b s t where
  bsq := h.bsq
  srs := h.srs
  oau := h.oau
  blc := by rw [h.blc]
  snu := h.snu
  pts := h.pts
  moc := h.moc
  pli := h.pli
  supervisor := h.supervisor
  untaken := h.untaken

theorem state (h : SteamMove b s t) : t.blc.state = s.blc.state := by rw [h.blc]

end SteamMove

section
variable {b : Bay} {s : State}

/-- A boiler that is READY is not started. -/
theorem examineSteam_steamMove (hready : s.blc.state = .ready) : SteamMove b s (examineSteam s) := by
  unfold examineSteam
  split
  · rw [examineStart, if_neg (by simp [hready])]
    constructor <;> intros <;> rfl
  · exact .refl b s

theorem acceptProgram_steamMove (program : List StepRecord) (hready : s.blc.state = .ready) :
    SteamMove b s (acceptProgram b program s) := by
  have hentered : SteamMove b s (enterStep b 0 (programAdmitted b program s)) :=
    .of_bay ((programAdmitted_frame b program s).trans (enterStep_frame b 0 _))
  rw [acceptProgram_eq]
  exact hentered.trans (examineSteam_steamMove (hentered.state.trans hready))

theorem examineAdmission_steamMove (hready : s.blc.state = .ready) : SteamMove b s (examineAdmission b s) := by
  obtain ⟨u, hu, hend⟩ := examineAdmission_form b s
  have hrejected : SteamMove b s u := .of_bay hu.frame
  rcases hend with hend | ⟨program, -, hend⟩
  · exact hend ▸ hrejected
  · exact hend ▸ hrejected.trans (acceptProgram_steamMove program (hrejected.state.trans hready))

theorem endStep_steamMove (result : Result) (hready : s.blc.state = .ready) : SteamMove b s (endStep b result s) := by
  cases hx : (s.bsq.get b).context with
  | none =>
    rw [endStep, hx]
    exact .refl b s
  | some x =>
    cases hf : isFinalStep x with
    | true =>
      have hended : SteamMove b s (programEnded b result x s) := .of_bay (programEnded_frame b result x s)
      rw [endStep_of_final result hx hf]
      exact hended.trans (examineAdmission_steamMove (hended.state.trans hready))
    | false =>
      rw [endStep_of_not_final result hx hf]
      exact .of_bay (stepGivesWay_frame b result x s)

/-! ### A bay's credit (R114) -/

/-- A credit below what the step lacks only adds to what it was given. -/
theorem creditBay_adds {credits : PerBay Nat} {x : Context} (hx : (s.bsq.get b).context = some x)
    (hpos : 0 < credits.get b) (hlacks : credits.get b ≠ steamLacking (s.bsq.get b)) :
    creditBay credits b s = setContext b (some { x with delivered := x.delivered + credits.get b }) s := by
  obtain ⟨n, hn⟩ := Nat.exists_eq_add_of_lt hpos
  rw [Nat.zero_add] at hn
  rw [hn] at hlacks
  simp only [creditBay, hx, hn, if_neg hlacks.symm]

/-- A credit of all that the step lacks ends it with DONE. -/
theorem creditBay_ends {credits : PerBay Nat} {x : Context} (hx : (s.bsq.get b).context = some x)
    (hpos : 0 < credits.get b) (hfills : credits.get b = steamLacking (s.bsq.get b)) :
    creditBay credits b s =
      endStep b .done (setContext b (some { x with delivered := x.delivered + credits.get b }) s) := by
  obtain ⟨n, hn⟩ := Nat.exists_eq_add_of_lt hpos
  rw [Nat.zero_add] at hn
  rw [hn] at hfills
  simp only [creditBay, hx, hn, if_pos hfills.symm]

theorem creditBay_steamMove (credits : PerBay Nat) (b : Bay) (hready : s.blc.state = .ready) :
    SteamMove b s (creditBay credits b s) := by
  rcases Nat.eq_zero_or_pos (credits.get b) with hzero | hpos
  · rw [creditBay_of_zero s hzero]
    exact .refl b s
  · cases hx : (s.bsq.get b).context with
    | none =>
      rw [creditBay, hx]
      exact .refl b s
    | some x =>
      have hset (y : Context) : SteamMove b s (setContext b (some y) s) := .of_bay (setContext_frame b (some y) s)
      by_cases hfills : credits.get b = steamLacking (s.bsq.get b)
      · rw [creditBay_ends hx hpos hfills]
        exact (hset _).trans (endStep_steamMove .done hready)
      · rw [creditBay_adds hx hpos hfills]
        exact hset _

end

/-! ### The credits of every bay -/

/-- The sequencer and the two rings of bay b stand as they were. -/
structure RingsAside (b : Bay) (s t : State) : Prop where
  bsq : t.bsq.get b = s.bsq.get b
  srs : t.srs.get b = s.srs.get b
  oau : t.oau.get b = s.oau.get b
  boiler : t.blc.state = s.blc.state

theorem RingsAside.trans {b : Bay} {s t u : State} (h : RingsAside b s t) (k : RingsAside b t u) : RingsAside b s u :=
  ⟨k.bsq.trans h.bsq, k.srs.trans h.srs, k.oau.trans h.oau, k.boiler.trans h.boiler⟩

theorem SteamMove.aside {b c : Bay} {s t : State} (h : SteamMove c s t) (hc : b ≠ c) : RingsAside b s t :=
  ⟨h.bsq b hc, h.srs b hc, h.oau b hc, h.state⟩

section
variable {s : State} (credits : PerBay Nat)

/-- What the turns of all bays leave of the plant. -/
theorem creditBays_plant (hready : s.blc.state = .ready) :
    let t := forBays (creditBay credits) s
    t.blc = { s.blc with valves := t.blc.valves, idleTimer := t.blc.idleTimer } ∧ t.snu = s.snu ∧ t.pts = s.pts ∧
      t.moc = s.moc ∧ t.pli = s.pli ∧ t.supervisor = s.supervisor ∧ t.untaken = s.untaken := by
  refine forBays_preserves (p := fun t => t.blc = { s.blc with valves := t.blc.valves, idleTimer := t.blc.idleTimer } ∧
    t.snu = s.snu ∧ t.pts = s.pts ∧ t.moc = s.moc ∧ t.pli = s.pli ∧ t.supervisor = s.supervisor ∧ t.untaken = s.untaken)
    (fun b u ⟨hblc, hsnu, hpts, hmoc, hpli, hsupervisor, huntaken⟩ => ?_) ⟨rfl, rfl, rfl, rfl, rfl, rfl, rfl⟩
  have hmove := creditBay_steamMove (s := u) credits b (by rw [hblc]; exact hready)
  exact ⟨hmove.blc.trans (by rw [hblc]), hmove.snu.trans hsnu, hmove.pts.trans hpts, hmove.moc.trans hmoc,
    hmove.pli.trans hpli, hmove.supervisor.trans hsupervisor, hmove.untaken.trans huntaken⟩

/-- Each bay is credited on a state in which it stands as before, and the turns after it leave it alone. -/
theorem creditBays_bay (hready : s.blc.state = .ready) (b : Bay) :
    ∃ u, RingsAside b s u ∧ RingsAside b (creditBay credits b u) (forBays (creditBay credits) s) := by
  have hturn {u : State} (c : Bay) (hu : RingsAside b s u) (hc : b ≠ c) : RingsAside b s (creditBay credits c u) :=
    hu.trans ((creditBay_steamMove credits c (hu.boiler.trans hready)).aside hc)
  have hown {u : State} (hu : RingsAside b s u) : (creditBay credits b u).blc.state = .ready :=
    (creditBay_steamMove credits b (hu.boiler.trans hready)).state.trans (hu.boiler.trans hready)
  have hafter {v u : State} (c : Bay) (hv : v.blc.state = .ready) (hu : RingsAside b v u) (hc : b ≠ c) :
      RingsAside b v (creditBay credits c u) :=
    hu.trans ((creditBay_steamMove credits c (hu.boiler.trans hv)).aside hc)
  have hrefl (u : State) : RingsAside b u u := ⟨rfl, rfl, rfl, rfl⟩
  cases b with
  | b0 =>
    have hv := hown (hrefl s)
    exact ⟨s, hrefl s, hafter .b3 hv (hafter .b2 hv (hafter .b1 hv (hrefl _) (by decide)) (by decide)) (by decide)⟩
  | b1 =>
    have hu := hturn .b0 (hrefl s) (by decide)
    exact ⟨_, hu, hafter .b3 (hown hu) (hafter .b2 (hown hu) (hrefl _) (by decide)) (by decide)⟩
  | b2 =>
    have hu := hturn .b1 (hturn .b0 (hrefl s) (by decide)) (by decide)
    exact ⟨_, hu, hafter .b3 (hown hu) (hrefl _) (by decide)⟩
  | b3 =>
    have hu := hturn .b2 (hturn .b1 (hturn .b0 (hrefl s) (by decide)) (by decide)) (by decide)
    exact ⟨_, hu, hrefl _⟩

end

section
variable {s : State}

/-- What a STEAM step was given, in tenths of a gram. -/
theorem steamDecigrams_of_steam {x : Context} (hsteam : copyIs .steam (contextCopy x) = true) :
    steamDecigrams x = some (x.delivered / 100) := if_pos hsteam

theorem steaming_of_credit {b : Bay} {y : Nat} (h : 0 < (steamCredits y s).get b) : steaming s b = true := by
  by_contra hno
  rw [steamCredits_of_not_steaming y (by simpa using hno)] at h
  exact absurd h (by decide)

theorem contextCopy_of_steaming {b : Bay} {x : Context} (h : steaming s b = true)
    (hx : (s.bsq.get b).context = some x) : copyIs .steam (contextCopy x) = true := by
  unfold steaming runningCopy at h
  split at h
  · rw [currentCopy, hx] at h
    exact h
  · simp [copyIs] at h

/-- What the credits of a yield do to a bay (R56, R114). -/
theorem creditBays_credit {v : State} (y : Nat) (b : Bay) (hready : v.blc.state = .ready)
    (hbsq : v.bsq = s.bsq) (hsrs : v.srs = s.srs) (hoau : v.oau = s.oau) :
    let credits := steamCredits y s
    let t := forBays (creditBay credits) v
    (credits.get b = 0 → t.bsq.get b = s.bsq.get b ∧ t.srs.get b = s.srs.get b ∧ t.oau.get b = s.oau.get b) ∧
    ∀ x, (s.bsq.get b).context = some x → 0 < credits.get b →
      (credits.get b < steamLacking (s.bsq.get b) → t.srs.get b = s.srs.get b ∧ t.oau.get b = s.oau.get b ∧
        t.bsq.get b = { s.bsq.get b with context := some { x with delivered := x.delivered + credits.get b } }) ∧
      (credits.get b = steamLacking (s.bsq.get b) →
        (x.index + 1 < x.stepCount → ∃ z, (t.bsq.get b).context = some z ∧ z.index = x.index + 1) ∧
        (x.stepCount ≤ x.index + 1 → ∃ rec posted, (t.oau.get b).records =
          (s.oau.get b).records ++ rec :: posted ∧ rec.result = .done ∧ rec.final = true ∧
          rec.steamDg = some ((x.delivered + credits.get b) / 100))) := by
  intro credits t
  obtain ⟨u, hbefore, hafter⟩ := creditBays_bay credits hready b
  have hqu : u.bsq.get b = s.bsq.get b := by rw [hbefore.bsq, hbsq]
  have hru : u.srs.get b = s.srs.get b := by rw [hbefore.srs, hsrs]
  have hou : u.oau.get b = s.oau.get b := by rw [hbefore.oau, hoau]
  refine ⟨fun hzero => ?_, fun x hx hpos => ⟨fun hlt => ?_, fun hfills => ?_⟩⟩
  · rw [creditBay_of_zero u hzero] at hafter
    exact ⟨hafter.bsq.trans hqu, hafter.srs.trans hru, hafter.oau.trans hou⟩
  · rw [creditBay_adds (by rw [hqu]; exact hx) hpos (by rw [hqu]; exact hlt.ne)] at hafter
    refine ⟨hafter.srs.trans hru, hafter.oau.trans hou, hafter.bsq.trans ?_⟩
    rw [setContext, setBsq_bsq, PerBay.get_set_same, hqu]
  · have hctx : ((setContext b (some { x with delivered := x.delivered + credits.get b }) u).bsq.get b).context =
        some { x with delivered := x.delivered + credits.get b } := by simp [setContext]
    rw [creditBay_ends (by rw [hqu]; exact hx) hpos (by rw [hqu]; exact hfills)] at hafter
    refine ⟨fun hmore => ?_, fun hfinal => ?_⟩
    · rw [endStep_of_not_final .done hctx (decide_eq_false (by dsimp only; omega))] at hafter
      exact ⟨_, (congrArg Bsq.context hafter.bsq).trans (stepGivesWay_context .done hctx), rfl⟩
    · rw [endStep_of_final .done hctx (decide_eq_true hfinal)] at hafter
      obtain ⟨posted, hposted⟩ := examineAdmission_posts b
        (programEnded b .done { x with delivered := x.delivered + credits.get b }
          (setContext b (some { x with delivered := x.delivered + credits.get b }) u))
      have hsteam := contextCopy_of_steaming (steaming_of_credit hpos) hx
      have hrecords := congrArg OutcomeRing.records hafter.oau
      rw [hposted, programEnded_records, setContext_oau, hou, List.append_assoc] at hrecords
      exact ⟨_, posted, hrecords, rfl, rfl,
        steamDecigrams_of_steam (x := { x with delivered := x.delivered + credits.get b }) hsteam⟩

end

/-- The plant after a yield out of the quantity n, before the bays take their credits. -/
def steamMade (n : Nat) (s : State) : State :=
  { s with
    untaken := { s.untaken with blc := false }
    blc := { s.blc with
      heaterDrive := s.pae.grants.boiler
      carry := n % 2257
      lastYield := n / 2257
      credits := steamCredits (n / 2257) s
      produced := s.blc.produced + BitVec.ofNat 32 (n / 2257)
      pointer := if n / 2257 = 0 then s.blc.pointer else s.blc.pointer.next } }

theorem steamMade_state (n : Nat) (s : State) : (steamMade n s).blc.state = s.blc.state := by simp only [steamMade]

theorem any_steaming_iff (s : State) : Bay.all.any (steaming s) = true ↔ ∃ b, steaming s b = true := by
  have hall : ∀ b : Bay, b ∈ Bay.all := by intro b; cases b <;> decide
  simp [hall]

theorem takeSteam_yields {s : State} (hready : s.blc.state = .ready) (hsteams : ∃ b, steaming s b = true) :
    let n := s.blc.carry + (s.pae.grants.boiler - 150) * 500
    takeSteam s = forBays (creditBay (steamCredits (n / 2257) s)) (steamMade n s) :=
  if_pos ⟨hready, (any_steaming_iff s).mpr hsteams⟩

/-- Settles O48: the yield is taken off the carry first; the credits then move their own bays, the boiler staying READY. -/
theorem steamYieldKeepsTheRemainderAndCredits : Obligations.SteamYieldKeepsTheRemainderAndCredits := by
  intro s g n y credits
  refine ⟨fun hready hsteams => ⟨_, congrArg Host.Outcome.next (takeSteam_yields hready hsteams), ?_⟩, fun hno => ?_⟩
  · have hmade : (steamMade n s).blc.state = .ready := by rw [steamMade_state, hready]
    obtain ⟨hblc, hsnu, hpts, hmoc, hpli, hsupervisor, huntaken⟩ := creditBays_plant (s := steamMade n s) credits hmade
    have hbays (b : Bay) := creditBays_credit (s := s) (v := steamMade n s) y b hmade
      (by simp only [steamMade]) (by simp only [steamMade]) (by simp only [steamMade])
    have hy : y ≤ 233 ∨ 1200 < g ∨ 2257 ≤ s.blc.carry := by
      have hn : n = s.blc.carry + (g - 150) * 500 := rfl
      have hy : y = n / 2257 := rfl
      omega
    refine ⟨huntaken, ?_⟩
    rw [hblc]
    dsimp only [steamMade]
    exact ⟨rfl, rfl, rfl, (Nat.div_add_mod n 2257).symm, Nat.mod_lt n (by decide), fun hg hcarry => by omega, rfl, hready, rfl,
      hsnu, hpts, hmoc, hpli, hsupervisor, hbays⟩
  · have hnot : ¬ (s.blc.state = .ready ∧ Bay.all.any (steaming s) = true) := by
      rintro ⟨hready, hsteams⟩
      obtain ⟨b, hb⟩ := (any_steaming_iff s).mp hsteams
      rcases hno with h | h
      · exact h hready
      · rw [h b] at hb
        cases hb
    exact congrArg Host.Outcome.next (if_neg hnot)

end Sys2Proof.Machine
end

section
/-! A round of the power allotment: who asks, what each is given, and what the table adds up to (R72 to R92). -/

namespace Sys2Proof.Machine

/-! ### The heaters that ask (R87, R88) -/

/-- The place of a heater among those of equal weight (R91). -/
def heaterPlace (x : Requestor) : Nat := match x.bay with | none => 0 | some b => 1 + b.toNat

/-- What a heater of the plant asks for. -/
def heaterDemand (s : State) : Option Bay → Nat
  | none => boilerDemand s
  | some b => (s.alc.bays.get b).demand

theorem requestors_demand {s : State} {r : Requestor} (h : r ∈ requestors s) : r.demand = heaterDemand s r.bay := by
  obtain ⟨hmem, -⟩ := List.mem_filter.mp h
  simp only [allHeaters, List.mem_cons, List.mem_map] at hmem
  rcases hmem with rfl | ⟨b, -, rfl⟩ <;> rfl

/-- A heater with a demand takes part. -/
theorem exists_requestor {s : State} {bay : Option Bay} (h : 0 < heaterDemand s bay) :
    ∃ r ∈ requestors s, r.bay = bay := by
  have hall : ∀ b : Bay, b ∈ Bay.all := by intro b; cases b <;> decide
  cases bay with
  | none => exact ⟨_, List.mem_filter.mpr ⟨List.mem_cons_self, decide_eq_true h⟩, rfl⟩
  | some b =>
    exact ⟨_, List.mem_filter.mpr ⟨List.mem_cons_of_mem _ (List.mem_map_of_mem (hall b)), decide_eq_true h⟩, rfl⟩

theorem boilerDemand_quanta (s : State) : boilerQuantum ∣ boilerDemand s := by
  unfold boilerDemand
  have hwatts : boilerQuantum ∣ boilerWatts := ⟨8, rfl⟩
  split
  · exact hwatts
  · rcases Nat.le_total boilerWatts (boilerQuantum * (1 + steamLevels s)) with h | h
    · rw [Nat.min_eq_left h]
      exact hwatts
    · rw [Nat.min_eq_right h]
      exact Nat.dvd_mul_right _ _
  · exact Nat.dvd_zero _

theorem auxDemand_quanta (b : Bay) (s : State) : auxQuantum ∣ auxDemand b s := by
  unfold auxDemand
  split
  · split
    · split
      · exact Nat.dvd_mul_right _ _
      · exact Nat.dvd_zero _
    · exact Nat.dvd_zero _
  · exact Nat.dvd_zero _

/-- Every demand is whole quanta. -/
theorem requestors_quanta {s : State} (hlaw : HeaterLaw s) :
    ∀ r ∈ requestors s, 0 < r.quantum ∧ r.quantum ∣ r.demand := by
  intro r hr
  obtain ⟨hmem, -⟩ := List.mem_filter.mp hr
  simp only [allHeaters, List.mem_cons, List.mem_map] at hmem
  rcases hmem with rfl | ⟨b, -, rfl⟩
  · exact ⟨show 0 < boilerQuantum by decide, boilerDemand_quanta s⟩
  · refine ⟨show 0 < auxQuantum by decide, ?_⟩
    dsimp only
    rw [(hlaw b).1]
    exact auxDemand_quanta b s

/-- The heaters come in the order of ties. -/
theorem requestors_placed (s : State) : (requestors s).Pairwise fun x y => heaterPlace x < heaterPlace y := by
  refine List.Pairwise.filter _ ?_
  simp [allHeaters, Bay.all, heaterPlace, Bay.toNat]

theorem place_injective {x y : Requestor} (h : x.bay = y.bay) : heaterPlace x = heaterPlace y := by
  simp only [heaterPlace, h]

theorem requestors_bays (s : State) : ((requestors s).map Requestor.bay).Nodup := by
  rw [List.Nodup, List.pairwise_map]
  exact (requestors_placed s).imp fun hlt hbay => absurd (place_injective hbay) hlt.ne

/-! ### The grants read from the shares -/

/-- What a heater is given is the grant of a share of it, or nothing. -/
theorem grantOf_le {bay : Option Bay} {n : Nat} {rs : List Requestor} (h : ∀ r ∈ rs, r.bay = bay → r.grant ≤ n) :
    grantOf bay rs ≤ n := by
  induction rs with
  | nil => exact Nat.zero_le n
  | cons r rs ih =>
    unfold grantOf
    split
    next hbay => exact h r List.mem_cons_self hbay
    next => exact ih fun x hx => h x (List.mem_cons_of_mem r hx)

/-- Where each heater has one share at most, the heater is given its share's grant. -/
theorem grantOf_of_mem {rs : List Requestor} (hbays : (rs.map Requestor.bay).Nodup) {r : Requestor} (hr : r ∈ rs) :
    grantOf r.bay rs = r.grant := by
  induction rs with
  | nil => exact absurd hr List.not_mem_nil
  | cons x xs ih =>
    obtain ⟨hx, hxs⟩ := List.nodup_cons.mp hbays
    unfold grantOf
    rcases List.mem_cons.mp hr with rfl | hr
    · exact if_pos rfl
    · have hne : x.bay ≠ r.bay := fun h => hx (h ▸ List.mem_map_of_mem hr)
      rw [if_neg hne]
      exact ih hxs hr

/-- The heaters together are given no more than the shares. -/
theorem grantOf_sum_le (rs : List Requestor) :
    grantOf none rs + (PerBay.ofFn fun b => grantOf (some b) rs).sum ≤ sumGrants rs := by
  induction rs with
  | nil => exact Nat.le_refl 0
  | cons r rs ih =>
    have hone (bay : Option Bay) : grantOf bay (r :: rs) ≤ (if r.bay = bay then r.grant else 0) + grantOf bay rs := by
      rw [grantOf]
      split <;> simp
    have hown : (if r.bay = none then r.grant else 0) + (PerBay.ofFn fun b => if r.bay = some b then r.grant else 0).sum =
        r.grant := by
      cases hbay : r.bay with
      | none => simp [PerBay.sum, PerBay.ofFn]
      | some b => cases b <;> simp [PerBay.sum, PerBay.ofFn]
    have hall := PerBay.sum_ofFn_mono fun b => hone (some b)
    rw [PerBay.sum_ofFn_add] at hall
    have hnone := hone none
    rw [sumGrants_cons]
    omega

/-! ### The cycles of the second pass, one after another (R91) -/

/-- A cycle of the second pass, on the requestors and the leftover. -/
def cycled (p : List Requestor × Nat) : List Requestor × Nat := shareCycle p.2 p.1

/-- The second pass is the cycles up to the first that raises nothing. -/
theorem shareCycles_iterate {fuel left : Nat} {rs : List Requestor} (hfuel : left < fuel)
    (hq : ∀ r ∈ rs, 0 < r.quantum) :
    ∃ n, (cycled^[n] (rs, left)).1 = shareCycles fuel left rs ∧
      cycled (cycled^[n] (rs, left)) = cycled^[n] (rs, left) := by
  induction fuel generalizing left rs with
  | zero => omega
  | succ fuel ih =>
    have hle := shareCycle_left_le left rs
    unfold shareCycles
    dsimp only
    split
    next hsame =>
      obtain ⟨hrs, -⟩ := shareCycle_of_no_raise hq hsame
      exact ⟨0, hrs.symm, Prod.ext hrs hsame⟩
    next hless =>
      obtain ⟨n, hout, hfixed⟩ := ih (left := (shareCycle left rs).2) (by omega)
        (quantum_of_raised (shareCycle_raises left rs).1 hq)
      exact ⟨n + 1, hout, hfixed⟩

/-! ### The shares of a round -/

section
variable {s : State} {r2 : Nat}

theorem shares_bays (s : State) (r2 : Nat) : ((shareHeaters r2 (requestors s)).map Requestor.bay).Nodup := by
  have hperm := (shareHeaters_asked r2 (requestors s)).map Requestor.bay
  rw [List.map_map, List.map_map] at hperm
  exact hperm.nodup_iff.mpr (requestors_bays s)

theorem shares_demand {r : Requestor} (h : r ∈ shareHeaters r2 (requestors s)) : r.demand = heaterDemand s r.bay := by
  have hmem : asked r ∈ (requestors s).map asked :=
    (shareHeaters_asked r2 (requestors s)).mem_iff.mp (List.mem_map_of_mem h)
  obtain ⟨x, hx, hasked⟩ := List.mem_map.mp hmem
  obtain ⟨hbay, hdemand, -, -⟩ := asked_eq hasked
  rw [← hdemand, ← hbay, requestors_demand hx]

theorem grantOf_le_demand (hlaw : HeaterLaw s) (bay : Option Bay) :
    grantOf bay (shareHeaters r2 (requestors s)) ≤ heaterDemand s bay :=
  grantOf_le fun r hr hbay => by
    rw [← hbay, ← shares_demand hr]
    exact (shareHeaters_fitting (requestors_quanta hlaw) r hr).within

/-- Where the demands fit, every heater has its demand (R90). -/
theorem grantOf_fits (hfits : sumDemands (requestors s) ≤ r2) (hlaw : HeaterLaw s) (bay : Option Bay) :
    grantOf bay (shareHeaters r2 (requestors s)) = heaterDemand s bay := by
  rcases Nat.eq_zero_or_pos (heaterDemand s bay) with hzero | hpos
  · exact Nat.le_antisymm (grantOf_le_demand hlaw bay) (hzero ▸ Nat.zero_le _)
  · obtain ⟨r, hr, rfl⟩ := exists_requestor hpos
    have hmem : { r with grant := r.demand } ∈ shareHeaters r2 (requestors s) := by
      rw [shareHeaters_of_fits hfits]
      exact List.mem_map_of_mem (f := fun r : Requestor => { r with grant := r.demand }) hr
    rw [← requestors_demand hr]
    exact grantOf_of_mem (shares_bays s r2) hmem

/-- Where they do not fit, the shares come of the two passes (R90, R91). -/
theorem shares_of_short (hshort : r2 < sumDemands (requestors s)) (hlaw : HeaterLaw s) :
    ∃ (ordered : List Requestor) (n : Nat),
      ordered.Perm ((requestors s).map (firstGrant r2 (sumWeights (requestors s)))) ∧
      ordered.Pairwise (Before fun x y => heaterPlace x < heaterPlace y) ∧
      cycled (cycled^[n] (ordered, r2 - sumGrants ordered)) = cycled^[n] (ordered, r2 - sumGrants ordered) ∧
      ∀ x ∈ (cycled^[n] (ordered, r2 - sumGrants ordered)).1,
        x.grant = grantOf x.bay (shareHeaters r2 (requestors s)) := by
  have hquanta : ∀ r ∈ firstPass r2 (requestors s), 0 < r.quantum := fun r hr => by
    obtain ⟨x, hx, rfl⟩ := List.mem_map.mp ((firstPass_perm r2 _).mem_iff.mp hr)
    exact (requestors_quanta hlaw x hx).1
  obtain ⟨n, hout, hfixed⟩ := shareCycles_iterate (Nat.lt_add_one (r2 - sumGrants (firstPass r2 (requestors s)))) hquanta
  refine ⟨_, n, firstPass_perm r2 (requestors s), ?_, hfixed, fun x hx => ?_⟩
  · exact orderRequestors_pairwise (List.pairwise_map.mpr (requestors_placed s))
  · rw [hout, ← shareHeaters_of_short hshort] at hx
    exact (grantOf_of_mem (shares_bays s r2) hx).symm

end

/-! ### The compressor's part (R82, R83) -/

theorem applyDecision_keeps (d : CompressorDecision) (s : State) :
    let t := applyDecision d s
    t.pae.budget = s.pae.budget ∧ t.pae.effective = s.pae.effective ∧ t.alc.bays = s.alc.bays ∧ t.bsq = s.bsq ∧
      t.srs = s.srs ∧ t.oau = s.oau ∧ t.panels = s.panels ∧ t.blc = s.blc ∧ t.snu = s.snu ∧ t.pts = s.pts ∧
      t.moc = s.moc ∧ t.pli = s.pli := by
  cases d <;> exact ⟨rfl, rfl, rfl, rfl, rfl, rfl, rfl, rfl, rfl, rfl, rfl, rfl⟩

/-- The compressor runs after a round exactly where the round grants it 600 W, and only where that much is left. -/
theorem decideCompressor_grant (r1 : Nat) (s : State) :
    compressorGrant (decideCompressor r1 s) ≤ r1 ∧ compressorGrant (decideCompressor r1 s) =
      if (applyDecision (decideCompressor r1 s) s).pae.compressorOn then 600 else 0 := by
  cases hon : s.pae.compressorOn with
  | true =>
    rw [decideCompressor_on hon]
    split
    next => exact ⟨Nat.zero_le _, rfl⟩
    next hpower =>
      split
      next => exact ⟨Nat.le_of_not_lt hpower, (if_pos hon).symm⟩
      next => exact ⟨Nat.zero_le _, rfl⟩
  | false =>
    rw [decideCompressor_off hon]
    split
    next hstarts => exact ⟨hstarts.2.2.2.2, rfl⟩
    next => exact ⟨Nat.zero_le _, (if_neg (by simpa [applyDecision] using hon)).symm⟩

/-! ### The table of a round (R92) -/

section
variable {s : State}

/-- Fans up to level 8, the oscillators and the pump draw 223 W at the most (R77, R79). -/
theorem classZero_le (hfans : ∀ b, (s.alc.bays.get b).fan.driven ≤ 8) : classZero s ≤ 223 := by
  have hfan (b : Bay) : fanCharge (s.alc.bays.get b) ≤ 32 := Nat.mul_le_mul_left 4 (hfans b)
  have hosc (b : Bay) : oscCharge (s.alc.bays.get b) ≤ 20 := by
    unfold oscCharge
    split <;> simp [oscWatts]
  have hpump : pumpCharge s ≤ 15 := by
    unfold pumpCharge
    split <;> simp [pumpWatts]
  have hfansum := PerBay.sum_ofFn_mono hfan
  have hoscsum := PerBay.sum_ofFn_mono hosc
  change (PerBay.ofFn fun b => fanCharge (s.alc.bays.get b)).sum + (PerBay.ofFn fun b => oscCharge (s.alc.bays.get b)).sum +
    pumpCharge s ≤ 223
  have h32 : (PerBay.ofFn fun _ => 32).sum = 128 := rfl
  have h20 : (PerBay.ofFn fun _ => 20).sum = 80 := rfl
  omega

theorem effective_of_budgetLaw (h : BudgetLaw s) : 800 ≤ s.pae.effective := by
  obtain ⟨hlow, -, -, heffective⟩ := h
  rw [heffective, effectiveBudget, fallbackBudget]
  split <;> omega

/-- The three totals and the remainder make up what there is. -/
theorem roundTable_total (d : CompressorDecision) (hgrant : compressorGrant d ≤ s.pae.effective - 40 - classZero s)
    (hzero : classZero s ≤ s.pae.effective - 40) :
    let g := roundTable d s
    g.class0 + g.class1 + g.class2 + g.unallotted = s.pae.effective - 40 := by
  have hsum := grantOf_sum_le (shareHeaters (s.pae.effective - 40 - classZero s - compressorGrant d) (requestors s))
  have hle := shareHeaters_sum_le (s.pae.effective - 40 - classZero s - compressorGrant d) (requestors s)
  simp only [roundTable, available, standingReserve]
  omega

end

theorem exec_allotmentRound_else {s : State} (h : ¬ Awake s) : exec .allotmentRound s = .next s := by
  have hrun : roundsRun s = false := by simpa [roundsRun, Awake] using h
  change Host.Outcome.next (if roundsRun s then allotmentRound s else s) = _
  rw [hrun]
  rfl

theorem boilerDemand_le (s : State) : boilerDemand s ≤ 1200 := by
  unfold boilerDemand
  split
  · exact le_refl _
  · exact Nat.min_le_left _ _
  · exact Nat.zero_le _

/-- Settles O43: the table is read off the decision and the shares; the shares come of the demands or of the two passes. -/
theorem roundSharesTheBudgetLessTheReserve : Obligations.RoundSharesTheBudgetLessTheReserve := by
  intro s
  refine ⟨exec_allotmentRound_else, fun hA hbudget hlaw hfans => ?_, fun left => rfl, fun left x xs => rfl⟩
  have heffective := effective_of_budgetLaw hbudget
  have hzero := classZero_le hfans
  obtain ⟨d, hd⟩ : ∃ d, decideCompressor (s.pae.effective - 40 - classZero s) s = d := ⟨_, rfl⟩
  obtain ⟨hgrant, hruns⟩ := decideCompressor_grant (s.pae.effective - 40 - classZero s) s
  rw [hd] at hgrant hruns
  obtain ⟨r2, hr2⟩ : ∃ r2, r2 = s.pae.effective - 40 - classZero s - compressorGrant d := ⟨_, rfl⟩
  obtain ⟨hbudgetKept, heffectiveKept, hbays, hbsq, hsrs, hoau, hpanels, hblc, hsnu, hpts, hmoc, hpli⟩ :=
    applyDecision_keeps d s
  have hboiler : (roundTable d s).boiler = grantOf none (shareHeaters r2 (requestors s)) := by rw [hr2]; rfl
  have haux (b : Bay) : (roundTable d s).aux.get b = grantOf (some b) (shareHeaters r2 (requestors s)) := by
    rw [hr2]
    exact PerBay.get_ofFn _ b
  have hgrants (bay : Option Bay) : grantOf bay (shareHeaters r2 (requestors s)) =
      match bay with | none => (roundTable d s).boiler | some b => (roundTable d s).aux.get b := by
    cases bay with
    | none => exact hboiler.symm
    | some b => exact (haux b).symm
  have hwithin : (roundTable d s).boiler ≤ boilerDemand s := hboiler ▸ grantOf_le_demand hlaw none
  refine ⟨roundWith d s, (exec_allotmentRound_awake hA).trans (congrArg _ (allotmentRound_of_decision hd)),
    fun b => ⟨?_, ?_, ?_⟩,
    rfl, rfl, hzero, rfl, hruns, rfl, hwithin.trans (boilerDemand_le s), fun hheat hready => ?_,
    roundTable_total d hgrant (by omega), rfl, hbudgetKept, heffectiveKept, rfl, hbays, hbsq, hsrs, hoau, hpanels, hblc, hsnu,
    hpts, hmoc, hpli, ?_⟩
  · exact PerBay.get_map _ _ b
  · exact PerBay.get_map _ _ b
  · exact haux b ▸ grantOf_le_demand hlaw (some b)
  · exact Nat.le_zero.mp (hwithin.trans (boilerDemand_of_not_hot (by simp [isHot, hheat, hready])).le)
  · intro steams steamers wanted level heater rs r2' first place before cycle
    have hrs : rs = requestors s := rfl
    have hwanted : wanted = boilerDemand s := rfl
    have hr2' : r2' = r2 := hr2.symm
    rw [hrs, hr2']
    refine ⟨hwithin, fun hfits => ⟨hboiler.trans (grantOf_fits hfits hlaw none),
      fun b => (haux b).trans (grantOf_fits hfits hlaw (some b))⟩, fun hshort => ?_⟩
    obtain ⟨ordered, n, hperm, hordered, hfixed, hout⟩ := shares_of_short hshort hlaw
    have hfirst : firstGrant r2 (sumWeights (requestors s)) = first := by
      rw [hr2]
      rfl
    rw [hfirst] at hperm
    exact ⟨ordered, n, hperm, hordered, hfixed, fun x hx => (hout x hx).trans (hgrants x.bay)⟩

end Sys2Proof.Machine
end

section
/-! What each command does to the compressor: it runs on, or is stopped by what needs no minimum time (R80 to R86). -/

namespace Sys2Proof.Machine

/-! ### The compressor left as it is -/

section
variable (m : Master) (b : Bay) (s : State)

theorem endStep_compressorSame (result : Result) : CompressorSame s (endStep b result s) := by
  cases hx : (s.bsq.get b).context with
  | none =>
    rw [endStep, hx]
    exact .refl s
  | some x =>
    cases hf : isFinalStep x with
    | true =>
      rw [endStep_of_final result hx hf]
      exact (CompressorSame.of_bay (programEnded_frame b result x s)).trans (examineAdmission_compressorSame b _)
    | false =>
      rw [endStep_of_not_final result hx hf]
      exact .of_bay (stepGivesWay_frame b result x s)

theorem endPark_compressorSame : CompressorSame s (endPark b s) := by
  have hended : CompressorSame s (parkEnded b s) := .of_bay (parkEnded_frame b s)
  rw [endPark_eq]
  split
  · exact hended
  · exact hended.trans (examineAdmission_compressorSame b _)

theorem enterParking_compressorSame (result : ParkResult) : CompressorSame s (enterParking b result s) :=
  .of_bay (enterParking_frame b result s)

theorem setContext_compressorSame (x : Option Context) : CompressorSame s (setContext b x s) :=
  .of_bay (setContext_frame b x s)

/-- A master's record, the link, the store, the modes and the boiler are none of the compressor. -/
theorem CompressorSame.of_eq {s t : State} (hpae : t.pae = s.pae) (halc : t.alc = s.alc) : CompressorSame s t := by
  constructor <;> simp only [hpae, halc]

theorem setMaster_compressorSame (x : MasterState) : CompressorSame s (setMaster m x s) := by
  cases m <;> exact .of_eq rfl rfl

theorem formEffective_compressorSame : CompressorSame s (formEffective s) := by constructor <;> rfl

theorem heard_compressorSame : CompressorSame s (heard m s) := by
  have hended : CompressorSame s (endFrame s) := .of_eq rfl rfl
  have hset (x : MasterState) : CompressorSame s (setMaster m x (endFrame s)) :=
    hended.trans (setMaster_compressorSame m (endFrame s) x)
  unfold heard becomePresent
  dsimp only
  split
  · exact hset _
  · cases m with
    | supervisor => exact (hset _).trans (formEffective_compressorSame _)
    | panel b => exact (hset _).trans (examineAdmission_compressorSame b _)

/-! ### The owners of the requests -/

theorem ownerStepAppend_compressorSame (expected : Byte) (records : List StepRecord) :
    CompressorSame s (ownerStepAppend b expected records s).1 := by
  unfold ownerStepAppend
  dsimp only
  split
  · exact .refl s
  split
  · exact .refl s
  split
  · exact .refl s
  split
  · exact .refl s
  next n _ =>
    have hbatch : CompressorSame s (withBatch b records n s) := .of_bay (setRing_frame b _ s)
    split
    · exact hbatch.trans (examineAdmission_compressorSame b _)
    · exact hbatch

theorem ownerQueueCancel_compressorSame : CompressorSame s (ownerQueueCancel b s).1 := by
  unfold ownerQueueCancel
  dsimp only
  split
  · exact .refl s
  split
  · exact .refl s
  · exact .of_bay ((setRing_frame b _ s).trans (postOutcome_frame b _ _ _))

theorem afterFree_compressorSame : CompressorSame s (afterFree b s) := by
  unfold afterFree
  split
  · split
    · exact .of_bay (startStep_frame b s)
    · exact .refl s
  · exact examineAdmission_compressorSame b s
  · exact .refl s

theorem ownerOutcomeFree_compressorSame (freed : Byte) : CompressorSame s (ownerOutcomeFree b freed s).1 := by
  unfold ownerOutcomeFree
  dsimp only
  split
  · exact .refl s
  split
  · exact .refl s
  · refine CompressorSame.trans ?_ (afterFree_compressorSame b _)
    split <;> exact .of_eq rfl rfl

theorem programRequest_compressorSame (number : Byte) {acts : State × Reply} (h : CompressorSame s acts.1)
    (answer nak : Reply) :
    CompressorSame s (match programMatch (s.bsq.get b) number with
      | .acts => acts | .parking => (s, answer) | .refused => (s, nak)).1 := by
  split
  · exact h
  · exact .refl s
  · exact .refl s

theorem ownerProgramAbort_compressorSame (number : Byte) : CompressorSame s (ownerProgramAbort b number s).1 :=
  programRequest_compressorSame b s number (acts := (enterParking b .aborted s, _)) (enterParking_compressorSame b s _) _ _

theorem ownerBayPause_compressorSame (number : Byte) : CompressorSame s (ownerBayPause b number s).1 :=
  programRequest_compressorSame b s number (acts := (setPaused b true s, _)) (.of_bay (setPaused_frame true)) _ _

theorem ownerBayResume_compressorSame (number : Byte) : CompressorSame s (ownerBayResume b number s).1 :=
  programRequest_compressorSame b s number (acts := (setPaused b false s, _)) (.of_bay (setPaused_frame false)) _ _

theorem ownerBayClear_compressorSame : CompressorSame s (ownerBayClear b s).1 := by
  unfold ownerBayClear
  split
  · refine CompressorSame.trans ?_ (examineAdmission_compressorSame b _)
    exact .of_bay (((setBsq_frame b _ s).trans (raisePanel_frame b _ _)).trans (driveBay_frame b _))
  · exact .refl s

theorem ownerBoilerClear_compressorSame : CompressorSame s (ownerBoilerClear s).1 := by
  unfold ownerBoilerClear
  split
  · exact (boilerUnlocked_compressorSame s).trans (examineStart_compressorSame _)
  · exact .refl s

theorem ownerProfileWrite_compressorSame (slot state : Byte) (v : ProfileValues) :
    CompressorSame s (ownerProfileWrite slot state v s).1 := by
  unfold ownerProfileWrite
  split
  · exact .of_eq rfl rfl
  split
  · exact .of_eq rfl rfl
  · exact .refl s

theorem ownerProfileCommit_compressorSame : CompressorSame s (ownerProfileCommit s).1 := by
  unfold ownerProfileCommit
  split <;> exact .of_eq rfl rfl

theorem ownerService_compressorSame (index value : Byte) (o : OutputId) :
    CompressorSame s (ownerService index value o s).1 := by
  cases o with
  | pump =>
    unfold ownerService
    dsimp only
    split <;> exact .of_eq rfl rfl
  | fan b | damper b | osc b =>
    unfold ownerService
    dsimp only
    split
    · exact .of_bay (setOutputs_frame b _ s)
    · exact .refl s

theorem afterService_compressorSame : CompressorSame s (afterService b s) := by
  unfold afterService
  split
  · exact examineAdmission_compressorSame b s
  · exact .refl s

theorem serviceToAuto_compressorSame (o : OutputId) : CompressorSame s (serviceToAuto o s) := by
  cases o with
  | pump =>
    unfold serviceToAuto
    dsimp only
    split
    · exact pumpToAuto_compressorSame s
    · exact .refl s
  | fan b | damper b | osc b =>
    unfold serviceToAuto
    dsimp only
    split
    · exact (CompressorSame.of_bay (setOutputs_frame b _ s)).trans (afterService_compressorSame b _)
    · exact .refl s

theorem ownerOutputService_compressorSame (index mode value : Byte) :
    CompressorSame s (ownerOutputService index mode value s).1 := by
  unfold ownerOutputService
  split
  · exact .refl s
  split
  · exact serviceToAuto_compressorSame s _
  split
  · exact ownerService_compressorSame s _ _ _
  · exact .refl s

theorem forBay_compressorSame {f : Bay → State → State × Reply} (bay : Byte) (h : ∀ b, CompressorSame s (f b s).1) :
    CompressorSame s (forBay bay f s).1 := by
  unfold forBay
  split
  · exact h _
  · exact .refl s

end

/-! ### The compressor stopped without regard to its minimum time (R84 to R86) -/

/-- Why the compressor may stop before its minimum time is over. -/
def ForcedOff (t : State) : Prop :=
  t.snu.condFull.filtered = true ∨ t.moc.phase ≠ .run ∨
    (t.moc.resetCause = .warm ∧ t.srs = PerBay.fill ⟨[], 0, 0, 0, 0⟩)

/-- The compressor runs as before, or it is OFF and one of these reasons holds. -/
inductive CompressorFate (s t : State) : Prop
  | same (hon : t.pae.compressorOn = s.pae.compressorOn)
  | stopped (hoff : t.pae.compressorOn = false) (hwhy : ForcedOff t)

theorem CompressorSame.fate {s t : State} (h : CompressorSame s t) : CompressorFate s t := .same h.on

namespace CompressorFate

variable {s t u : State}

theorem refl (s : State) : CompressorFate s s := .same rfl

theorem after (h : CompressorSame s t) (k : CompressorFate t u) : CompressorFate s u := by
  cases k with
  | same hon => exact .same (hon.trans h.on)
  | stopped hoff hwhy => exact .stopped hoff hwhy

theorem ite {p : Prop} [Decidable p] (h : p → CompressorFate s t) (k : ¬ p → CompressorFate s u) :
    CompressorFate s (if p then t else u) := by
  split
  · exact h ‹_›
  · exact k ‹_›

/-- A response formed at the end makes no difference. -/
theorem respond (h : CompressorFate s t) (m : Master) (kind : Byte) (noise : Bool) (reply : Reply) :
    CompressorFate s (respond m kind noise reply t) := by
  cases h with
  | same hon => exact .same hon
  | stopped hoff hwhy => exact .stopped hoff hwhy

end CompressorFate

section
variable (m : Master) (s : State)

theorem forceCompressorOff_isOff : (forceCompressorOff s).pae.compressorOn = false := by
  cases hon : s.pae.compressorOn with
  | true => exact (forceCompressorOff_on hon).1.on
  | false => rw [forceCompressorOff_off hon, hon]

theorem ownerPlantMode_fate (mode : Byte) : CompressorFate s (ownerPlantMode mode s).1 := by
  unfold ownerPlantMode
  split
  · exact .ite (fun _ => enterRun_compressorSame.fate) fun _ => .refl s
  split
  · exact .ite (fun _ => .stopped (forceCompressorOff_isOff _) (.inr (.inl (by rw [enterStandby_phase]; simp))))
      fun _ => .refl s
  split
  · unfold ownerPlantModeSleep
    split
    · have hoff : (enterSleep s).pae.compressorOn = false := by
        cases hon : s.pae.compressorOn <;> simp [enterSleep, hon, compressorOff]
      exact .stopped hoff (.inr (.inl (by simp [enterSleep])))
    · exact .refl s
  · exact .refl s

theorem restartPlant_fate : CompressorFate s (restartPlant s) := by
  have ht := restartCooled s
  rw [restartPlant_eq]
  generalize coolBoiler (restartReady (forBays restartBay s)) = t at ht ⊢
  have hrings : t.srs = PerBay.fill ⟨[], 0, 0, 0, 0⟩ := PerBay.ext_get fun b => by
    rw [(ht.bay b).srs]
    cases b <;> rfl
  exact .stopped ht.on (.inr (.inr ⟨rfl, hrings⟩))

theorem perform_fate (r : Request) : CompressorFate s (perform m r s).1 := by
  cases r with
  | ping | statusPlant | eventsRead | profileRead => exact .refl s
  | statusBay bay _ | outcomeRead bay => exact (forBay_compressorSame s bay fun _ => .refl s).fate
  | eventsClear e => exact (setMaster_compressorSame m s _).fate
  | eventsMask mask => exact (setMaster_compressorSame m s _).fate
  | stepAppend bay p rs => exact (forBay_compressorSame s bay fun b => ownerStepAppend_compressorSame b s p rs).fate
  | queueCancel bay => exact (forBay_compressorSame s bay fun b => ownerQueueCancel_compressorSame b s).fate
  | outcomeFree bay f => exact (forBay_compressorSame s bay fun b => ownerOutcomeFree_compressorSame b s f).fate
  | bayPause bay n => exact (forBay_compressorSame s bay fun b => ownerBayPause_compressorSame b s n).fate
  | bayResume bay n => exact (forBay_compressorSame s bay fun b => ownerBayResume_compressorSame b s n).fate
  | programAbort bay n => exact (forBay_compressorSame s bay fun b => ownerProgramAbort_compressorSame b s n).fate
  | budgetSet v => exact .same rfl
  | profileWrite slot st v => exact (ownerProfileWrite_compressorSame s slot st v).fate
  | profileCommit => exact (ownerProfileCommit_compressorSame s).fate
  | plantMode mode => exact ownerPlantMode_fate s mode
  | warmRestart => exact restartPlant_fate s
  | outputService o mode v => exact (ownerOutputService_compressorSame s o mode v).fate
  | bayClear bay => exact (forBay_compressorSame s bay fun b => ownerBayClear_compressorSame b s).fate
  | boilerClear => exact (ownerBoilerClear_compressorSame s).fate

/-! ### Frames and characters -/

theorem takeFrame_fate (kind : Byte) (k : Option ReqKind) (r : Option Request) (noise : Bool) :
    CompressorFate s (takeFrame m kind k r noise s) := by
  have hended : CompressorSame s (endFrame s) := .of_eq rfl rfl
  refine .ite (fun _ => .ite (fun _ => ?_) fun _ => hended.fate.respond m _ _ _) fun _ => .refl s
  have hheard := heard_compressorSame m s
  unfold answerFrame
  split
  · exact hheard.fate.respond m _ _ _
  · exact (CompressorFate.after hheard (perform_fate m _ _)).respond m _ _ _
  · exact hheard.fate

theorem acceptFrame_fate (source kind : Byte) (payload : List Byte) (noise : Bool) :
    CompressorFate s (acceptFrame source kind payload noise s) := by
  unfold acceptFrame
  split
  · exact .ite (fun _ => .same rfl) fun _ => .refl s
  · exact takeFrame_fate _ s _ _ _ _

theorem assemble_fate (c : RxChar) : CompressorFate s (assemble c s) := by
  have hset : CompressorSame s (setRx (rxMove c s.pli.rx).rx s) := .of_eq rfl rfl
  unfold assemble
  dsimp only
  split
  · exact .ite (fun _ => .after hset (acceptFrame_fate _ _ _ _ _)) fun _ => .same rfl
  · exact .ite (fun _ => .same rfl) fun _ => .same rfl

theorem sleepChar_fate (c : RxChar) : CompressorFate s (sleepChar c s) := .ite (fun _ => .same rfl) fun _ => .refl s

theorem inTurnaround_fate {c : RxChar} {retake : State → State} (h : ∀ t, CompressorFate t (retake t)) :
    CompressorFate s (inTurnaround c retake s) :=
  have hcut : CompressorSame s (linkFault { s with pli := { s.pli with tx := none, rx := .hunt } }) := .of_eq rfl rfl
  .ite (fun _ => .after hcut (h _)) fun _ => .refl s

theorem takeChar_fate (c : RxChar) : CompressorFate s (takeChar c s) := by
  unfold takeChar
  split
  · exact .refl s
  · exact .ite (fun _ => .same rfl) fun _ => .ite (fun _ => .same rfl) fun _ => .refl s
  · exact .ite (fun _ => inTurnaround_fate s (sleepChar_fate · c)) fun _ => sleepChar_fate s c
  all_goals exact .ite (fun _ => inTurnaround_fate s (assemble_fate · c)) fun _ => assemble_fate s c

/-! ### Publications, samples and timers -/

theorem expirePresence_compressorSame : CompressorSame s (expirePresence m s) := by
  cases m with
  | supervisor => constructor <;> rfl
  | panel b =>
    have hset : CompressorSame s (raiseSup .masterLost
        (setMaster (.panel b) { masterState (.panel b) s with present := false, window := windowMs (.panel b) } s)) :=
      .of_eq rfl rfl
    exact hset.trans (enterParking_compressorSame b _ _)

theorem creditBay_compressorSame (credits : PerBay Nat) (b : Bay) : CompressorSame s (creditBay credits b s) := by
  unfold creditBay
  dsimp only
  split
  · split
    · exact (setContext_compressorSame b s _).trans (endStep_compressorSame b _ _)
    · exact setContext_compressorSame b s _
  · exact .refl s

theorem takeSteam_compressorSame : CompressorSame s (takeSteam s) := by
  have hcredited (credits : PerBay Nat) {v : State} (hpae : v.pae = s.pae) (halc : v.alc = s.alc) :
      CompressorSame s (forBays (creditBay credits) v) :=
    (CompressorSame.of_eq hpae halc).trans (.forBays (fun b u => creditBay_compressorSame u credits b) v)
  unfold takeSteam
  dsimp only
  split
  · exact hcredited _ rfl rfl
  · exact .of_eq rfl rfl

theorem takeHeaters_compressorSame : CompressorSame s (takeHeaters s) :=
  have htaken : CompressorSame s { s with untaken := { s.untaken with alc := false } } := .of_eq rfl rfl
  htaken.trans (.forBays (fun b u => .of_bay (takeHeater_frame b u)) _)

theorem takePower_compressorSame (b : Bay) : CompressorSame s (takePower b s) :=
  have htaken : CompressorSame s { s with untaken := { s.untaken with bsq := s.untaken.bsq.set b false } } := .of_eq rfl rfl
  htaken.trans (.of_bay (reholdPower_frame b _))

theorem towardsFill_compressorSame : CompressorSame s (towardsFill s) := by
  unfold towardsFill
  split <;> exact toBoiler_compressorSame _ s

theorem enterHeat_compressorSame : CompressorSame s (enterHeat s) := by
  unfold enterHeat
  dsimp only
  split
  · exact (toBoiler_compressorSame _ s).trans (toBoiler_compressorSame _ _)
  · exact toBoiler_compressorSame _ s

theorem freshEmptied_compressorSame : CompressorSame s (freshEmptied s) := by
  unfold freshEmptied
  dsimp only
  split
  · exact (raiseSup_compressorSame _ s).trans (toBoiler_compressorSame _ _)
  · exact raiseSup_compressorSame _ s

/-- A full condensate tank alone stops the compressor at the sample of a switch (R86, R127). -/
theorem consumeEdge_fate (sw : Switch) (e : Edge) (hfull : sw = .condFull → e = .rising → s.snu.condFull.filtered = true) :
    CompressorFate s (consumeEdge sw e s) := by
  cases sw with
  | front b => exact (CompressorSame.of_bay ((reholdFront_frame b s).trans (driveValve_frame b _))).fate
  | boilerWaterOk =>
    cases e with
    | rising =>
      change CompressorFate s (waterOk s)
      unfold waterOk
      split
      · exact (enterHeat_compressorSame s).fate
      · exact (examineStart_compressorSame s).fate
      · exact .refl s
    | falling => exact .ite (fun _ => (towardsFill_compressorSame s).fate) fun _ => .refl s
  | boilerCutout =>
    cases e with
    | rising => exact (lockBoiler_compressorSame _ s).fate
    | falling => exact (examineStart_compressorSame s).fate
  | freshLow =>
    cases e with
    | rising => exact (raiseSup_compressorSame .freshLow s).fate
    | falling => exact .refl s
  | freshEmpty =>
    cases e with
    | rising => exact (freshEmptied_compressorSame s).fate
    | falling => exact (refill_compressorSame s).fate
  | condFull =>
    have hheld (u : State) : CompressorSame u (forBays reholdTank u) := .forBays (fun b u => .of_bay (reholdTank_frame b u)) u
    cases e with
    | rising =>
      refine .stopped ((hheld _).on.trans (forceCompressorOff_isOff _)) (.inl ?_)
      have hsnu : (consumeEdge .condFull .rising s).snu = s.snu := (consumeEdge_plantFrame _ .condFull .rising).snu
      exact hsnu.symm ▸ hfull rfl rfl
    | falling => exact (hheld s).fate

theorem takeSwitch_fate (sw : Switch) (level : Bool) : CompressorFate s (takeSwitch sw level s) := by
  rw [takeSwitch_eq]
  split
  next e he =>
    have hsampled : CompressorSame s (withSwitch sw level s) := .of_eq rfl rfl
    refine .after hsampled (consumeEdge_fate _ sw e fun hsw hrising => ?_)
    subst hsw
    exact (filterEdge_some he).1.trans (decide_eq_true hrising)
  next => exact .same rfl

theorem compareGoal_compressorSame (kind : StepKind) (b : Bay) (c : Channel) :
    CompressorSame s (compareGoal kind b c s) := by
  unfold compareGoal
  split
  · split
    · split
      · dsimp only
        split
        · exact (setContext_compressorSame b s _).trans (endStep_compressorSame b _ _)
        · exact setContext_compressorSame b s _
      · exact .refl s
    · exact .refl s
  · exact .refl s

theorem parkSample_compressorSame (b : Bay) : CompressorSame s (parkSample b s) := by
  unfold parkSample
  split
  · exact endPark_compressorSame b s
  · exact .refl s

theorem channelBack_compressorSame (b : Bay) (old new : Channel) : CompressorSame s (channelBack b old new s) := by
  unfold channelBack
  split
  · exact examineAdmission_compressorSame b s
  · exact .refl s

theorem channelFault_compressorSame (b : Bay) (old new : Channel) : CompressorSame s (channelFault b old new s) := by
  unfold channelFault
  split
  · exact (raiseSup_compressorSame _ s).trans (baySensorFault_compressorSame b _)
  · exact .refl s

theorem compareBoiler_compressorSame (v : Nat) : CompressorSame s (compareBoiler v s) := by
  unfold compareBoiler
  split
  · exact lockBoiler_compressorSame _ s
  split
  · exact toBoiler_compressorSame _ s
  split
  · exact toBoiler_compressorSame _ s
  · exact .refl s

theorem consumeBoiler_compressorSame (old new : Channel) : CompressorSame s (consumeBoiler old new s) := by
  unfold consumeBoiler
  split
  · exact (raiseSup_compressorSame _ s).trans (lockBoiler_compressorSame _ _)
  · have hcompared : CompressorSame s (match validValue new with | some v => compareBoiler v s | none => s) := by
      split
      · exact compareBoiler_compressorSame s _
      · exact .refl s
    dsimp only
    split
    · exact hcompared.trans (examineStart_compressorSame _)
    · exact hcompared

theorem takeAnalog_compressorSame (ch : Analog) (raw : BitVec 10) : CompressorSame s (takeAnalog ch raw s) := by
  have hconverted : CompressorSame s (withConversion ch raw s) := .of_eq rfl rfl
  cases ch with
  | bayTemperature b =>
    rw [takeTemperature_eq]
    exact (((hconverted.trans (temperatureTaken_compressorSame b _ _ _)).trans (compareGoal_compressorSame _ _ b _)).trans
      (parkSample_compressorSame _ b)).trans (channelBack_compressorSame _ b _ _)
  | bayHumidity b =>
    rw [takeHumidity_eq]
    exact ((hconverted.trans (channelFault_compressorSame _ b _ _)).trans (compareGoal_compressorSame _ _ b _)).trans
      (channelBack_compressorSame _ b _ _)
  | boilerTemperature =>
    rw [takeBoiler_eq]
    exact hconverted.trans (consumeBoiler_compressorSame _ _ _)

theorem expireStep_compressorSame (b : Bay) : CompressorSame s (expireStep b s) := by
  unfold expireStep
  split
  · exact (setContext_compressorSame b s _).trans (endStep_compressorSame b _ _)
  · exact .refl s

theorem expireStall_compressorSame (b : Bay) : CompressorSame s (expireStall b s) := by
  unfold expireStall
  split
  · exact (setContext_compressorSame b s _).trans (enterParking_compressorSame b _ _)
  · exact .refl s

theorem expirePark_compressorSame (b : Bay) (limit : ParkLimit) : CompressorSame s (expirePark b limit s) := by
  have hset (q : Bsq) : CompressorSame s (setBsq b q s) := .of_bay (setBsq_frame b q s)
  unfold expirePark
  split
  · cases limit with
    | minimum =>
      unfold parkMinimum
      dsimp only
      split
      · exact .refl s
      split
      · exact (hset _).trans (endPark_compressorSame b _)
      · exact hset _
    | maximum => exact (hset _).trans (endPark_compressorSame b _)
  · exact .refl s

theorem endPhase_compressorSame (pass : Bool) : CompressorSame s (endPhase pass s) := by
  have hpts : (endPhase pass s).pae = s.pae ∧ (endPhase pass s).alc = s.alc := by
    unfold endPhase
    split
    · exact ⟨rfl, rfl⟩
    · exact ⟨rfl, rfl⟩
    · split
      · exact ⟨rfl, rfl⟩
      · split <;> exact ⟨rfl, rfl⟩
    · exact ⟨rfl, rfl⟩
    · split
      · exact ⟨rfl, rfl⟩
      · split <;> exact ⟨rfl, rfl⟩
    · exact ⟨rfl, rfl⟩
  exact .of_eq hpts.1 hpts.2

end

/-! ### Every command but a round -/

theorem exec_fate {c : Instr} (hc : c ≠ .allotmentRound) (s : State) :
    ∃ t, exec c s = .next t ∧ CompressorFate s t := by
  cases c with
  | allotmentRound => exact absurd rfl hc
  | powerOnReset straps => exact ⟨_, rfl, .stopped rfl (.inr (.inl (by simp [resetPart, State.reset])))⟩
  | pinReset straps => exact ⟨_, rfl, .stopped rfl (.inr (.inl (by simp [resetPart, State.reset])))⟩
  | startupEnd => exact ⟨_, rfl, .ite (fun _ => .same rfl) fun _ => .refl s⟩
  | linkCharacter c =>
    change ∃ t, execLinkCharacter c s = .next t ∧ CompressorFate s t
    unfold execLinkCharacter
    split
    · exact ⟨_, rfl, takeChar_fate s _⟩
    · exact ⟨_, rfl, .refl s⟩
  | idleGapExpiry => exact ⟨_, rfl, .ite (fun _ => .same rfl) fun _ => .refl s⟩
  | unknownSourceFrame source kind payload noise => exact ⟨_, rfl, acceptFrame_fate s _ _ _ _⟩
  | unknownKindRequest m kind payload noise => exact ⟨_, rfl, acceptFrame_fate s _ _ _ _⟩
  | responseSend =>
    refine ⟨_, rfl, .same ?_⟩
    unfold sendResponse
    split <;> rfl
  | echoMismatch n readBack =>
    change ∃ t, execEchoMismatch n readBack s = .next t ∧ CompressorFate s t
    unfold execEchoMismatch
    split
    · split
      · exact ⟨_, rfl, .ite (fun _ => .same rfl) fun _ => .refl s⟩
      · exact ⟨_, rfl, .refl s⟩
    · exact ⟨_, rfl, .refl s⟩
  | presenceExpiry m => exact ⟨_, rfl, .ite (fun _ => (expirePresence_compressorSame m s).fate) fun _ => .refl s⟩
  | ping | statusPlant | statusBay | eventsRead | eventsClear | eventsMask | stepAppend | queueCancel | outcomeRead
  | outcomeFree | bayPause | bayResume | programAbort | budgetSet | profileRead | profileWrite | profileCommit
  | plantModeRun | plantModeStandby | plantModeSleep | warmRestart | outputService | outputServiceAuto | bayClear
  | boilerClear => exact ⟨_, rfl, takeFrame_fate _ s _ _ _ _⟩
  | wake => exact ⟨_, rfl, .ite (fun _ => .same rfl) fun _ => .refl s⟩
  | wakeSettlingEnd => exact ⟨_, rfl, .ite (fun _ => .same rfl) fun _ => .refl s⟩
  | steamYield => exact ⟨_, rfl, (takeSteam_compressorSame s).fate⟩
  | heaterDriveUpdate => exact ⟨_, rfl, (takeHeaters_compressorSame s).fate⟩
  | noPowerReevaluation b => exact ⟨_, rfl, (takePower_compressorSame s b).fate⟩
  | switchSample sw level => exact ⟨_, rfl, .ite (fun _ => takeSwitch_fate s sw level) fun _ => .refl s⟩
  | analogSample ch raw => exact ⟨_, rfl, .ite (fun _ => (takeAnalog_compressorSame s ch raw).fate) fun _ => .refl s⟩
  | stepDurationExpiry b => exact ⟨_, rfl, (expireStep_compressorSame s b).fate⟩
  | stall b => exact ⟨_, rfl, .ite (fun _ => (expireStall_compressorSame s b).fate) fun _ => .refl s⟩
  | parkTimer b limit => exact ⟨_, rfl, (expirePark_compressorSame s b limit).fate⟩
  | fillTimeout => exact ⟨_, rfl, .ite (fun _ => (toBoiler_compressorSame _ s).fate) fun _ => .refl s⟩
  | idleCooldown => exact ⟨_, rfl, .ite (fun _ => (toBoiler_compressorSame _ s).fate) fun _ => .refl s⟩
  | commitPhaseEnd pass => exact ⟨_, rfl, (endPhase_compressorSame s pass).fate⟩

/-! ### A round, and a step -/

/-- What a start, and a stop, of the compressor says of the states before and after it. -/
def KeepsMinimumTimes (s t : State) : Prop :=
  (s.pae.compressorOn = false → t.pae.compressorOn = true →
    120000 ≤ s.pae.minOff ∧ s.moc.phase = .run ∧ s.snu.condFull.filtered = false ∧
    600 ≤ s.pae.effective - 40 - classZero s) ∧
  (s.pae.compressorOn = true → t.pae.compressorOn = false →
    60000 ≤ s.pae.minOn ∨ t.pae.shed = true ∨ ForcedOff t)

theorem CompressorFate.keepsTimes {s t : State} (h : CompressorFate s t) : KeepsMinimumTimes s t := by
  cases h with
  | same hon =>
    refine ⟨fun hs ht => ?_, fun hs ht => ?_⟩
    · rw [hon, hs] at ht
      cases ht
    · rw [hon, hs] at ht
      cases ht
  | stopped hoff hwhy =>
    refine ⟨fun _ ht => ?_, fun _ _ => .inr (.inr hwhy)⟩
    rw [hoff] at ht
    cases ht

theorem allotmentRound_keepsTimes (s : State) : KeepsMinimumTimes s (allotmentRound s) := by
  refine ⟨fun hs ht => ?_, fun hs ht => ?_⟩
  · have hdecision := decideCompressor_off (r1 := s.pae.effective - 40 - classZero s) hs
    by_cases hstarts : compressorRequested s = true ∧ 120000 ≤ s.pae.minOff ∧ s.snu.condFull.filtered = false ∧
        s.moc.phase = .run ∧ 600 ≤ s.pae.effective - 40 - classZero s
    · obtain ⟨-, hmin, htank, hrun, hpower⟩ := hstarts
      exact ⟨hmin, hrun, htank, hpower⟩
    · rw [if_neg hstarts] at hdecision
      rw [allotmentRound_of_decision hdecision] at ht
      have hstays : s.pae.compressorOn = true := ht
      rw [hs] at hstays
      cases hstays
  · have hdecision := decideCompressor_on (r1 := s.pae.effective - 40 - classZero s) hs
    split at hdecision
    · rw [allotmentRound_of_decision hdecision]
      exact .inr (.inl rfl)
    · split at hdecision
      · rw [allotmentRound_of_decision hdecision] at ht
        have hstays : s.pae.compressorOn = false := ht
        rw [hs] at hstays
        cases hstays
      next hleaves => exact .inl (Nat.le_of_not_lt fun hlt => hleaves (.inr hlt))

theorem exec_keepsTimes (c : Instr) {s t : State} (h : exec c s = .next t) : KeepsMinimumTimes s t := by
  by_cases hc : c = .allotmentRound
  · subst hc
    have hround : (if roundsRun s then allotmentRound s else s) = t := Host.Outcome.next.inj h
    rw [← hround]
    split
    · exact allotmentRound_keepsTimes s
    · exact (CompressorFate.refl s).keepsTimes
  · obtain ⟨u, hu, hfate⟩ := exec_fate hc s
    rw [hu] at h
    exact Host.Outcome.next.inj h ▸ hfate.keepsTimes

/-- Settles O45: a round decides by the timers; any other command leaves the compressor alone or stops it for a reason that
then holds. -/
theorem compressorKeepsItsMinimumTimes : Obligations.CompressorKeepsItsMinimumTimes := by
  intro s t h
  unfold step at h
  split at h
  next c rest _ => exact exec_keepsTimes (s := { s with pending := rest }) c h
  next =>
    unfold idleStep at h
    split at h
    next c _ =>
      have hkept := exec_keepsTimes c h
      unfold spendFree at hkept
      split at hkept <;> exact hkept
    next =>
      refine CompressorFate.keepsTimes (s := s) (.same ?_)
      exact Host.Outcome.next.inj h ▸ rfl

end Sys2Proof.Machine
end
